-- ==== Sys2Proof/Word.lean ====
section
/-!
DEFINITION. The word types of the block (00_scope.md R8).
-/

namespace Sys2Proof

/-- An input byte, `b[7:0]` (R8). -/
abbrev Byte := BitVec 8

/-- Half a byte: the version nibble (R73). -/
abbrev Nibble := BitVec 4

/-- A frame-buffer slot, a raw channel value, a CRC value or a pulse: 16 bits (R8, R20). -/
abbrev Word16 := BitVec 16

/-- A channel count or a slot index: 7 bits, unsigned (R24, R25). -/
abbrev Count7 := BitVec 7

end Sys2Proof
end

