-- ==== Sys2Proof/Config.lean ====
section
/-!
DEFINITION. The implementation parameters of 00_scope.md R6: the constants the spec fixes, and the
OPEN parameters, which have no body here, so that nothing can be proved of their values.
-/

namespace Sys2Proof

/-- `VER_V1` (R6; 92_eei_decisions.md D4). UNVERIFIED, log entry 8: unsafe if the real code differs. -/
def Config.verV1 : Nibble := 0x1#4

/-- `VER_V3` (R6; D4). UNVERIFIED, log entry 8: unsafe if the real code differs. -/
def Config.verV3 : Nibble := 0x3#4

/-- `V1_LEN_MIN` (R6, R74). -/
def Config.v1LenMin : Nat := 2

/-- `V1_LEN_MAX` (R6, R74; 90_conflicts.md C1). -/
def Config.v1LenMax : Nat := 32

/-- `V3_LEN_MIN` (R6, R74). -/
def Config.v3LenMin : Nat := 2

/-- `V3_LEN_MAX` (R6, R74). -/
def Config.v3LenMax : Nat := 68

/-- `V3_LEN_OFFSET` (R6, R74). -/
def Config.v3LenOffset : Nat := 2

/-- `BUF_CAP`: the number of 16-bit slots of the frame buffer (R6, R26). -/
def Config.bufCap : Nat := 66

/-- `CRC_POLY` (R6, R141). -/
def Config.crcPoly : Word16 := 0x1021#16

/-- `CRC_INIT` (R6, R140). -/
def Config.crcInit : Word16 := 0x0000#16

/-- The OPEN parameters that a step reads (R6): fixed when the block is built, written by no step (R7).
They stand in the state as one constant record, log entry 7. -/
structure Params where
  /-- `START_MARKER`, any byte value (R7). -/
  startMarker : Byte
  /-- `CENTER`, unsigned (R6). -/
  center : Word16
  /-- `PULSE_MIN`, signed (R6). -/
  pulseMin : Word16
  /-- `PULSE_MAX`, signed (R6). -/
  pulseMax : Word16
  /-- `N_OUT`, the number of pulse outputs (R6). -/
  nOut : Nat
deriving DecidableEq, Repr

/-- The constraints R6 puts on the OPEN parameters. -/
abbrev Params.Valid (p : Params) : Prop :=
  p.pulseMin.toInt ≤ p.pulseMax.toInt ∧ 1 ≤ p.nOut

/-- `START_MARKER` of the built block: OPEN (R6, D3). -/
opaque Config.startMarker : Byte

/-- `CENTER` of the built block: OPEN (R6, D5). -/
opaque Config.center : Word16

/-- One of the two clamp bounds of the built block: OPEN (R6, D6). `Config.params` orders the two. -/
opaque Config.pulseBoundA : Word16

/-- The other of the two clamp bounds of the built block: OPEN (R6, D6). -/
opaque Config.pulseBoundB : Word16

/-- How many pulse outputs the built block has beyond the one it must have: OPEN (R6, D8). -/
opaque Config.extraOutputs : Nat

/-- The OPEN parameters of the built block. Ordering the two bounds and adding one to the count gives
every parameter set that R6 admits, and no other (log entry 7). -/
def Config.params : Params where
  startMarker := Config.startMarker
  center := Config.center
  pulseMin := if Config.pulseBoundA.toInt ≤ Config.pulseBoundB.toInt then Config.pulseBoundA else Config.pulseBoundB
  pulseMax := if Config.pulseBoundA.toInt ≤ Config.pulseBoundB.toInt then Config.pulseBoundB else Config.pulseBoundA
  nOut := Config.extraOutputs + 1

/-- `SINK_PULSE0` by output index: OPEN (R6, R42, D26). -/
opaque Config.sinkPulse : Nat → Word16

/-- `SINK_PULSE0`: the `N_OUT` pulse outputs at power-on (R42). -/
def Config.sinkPulse0 : List Word16 :=
  (List.range Config.params.nOut).map Config.sinkPulse

/-- `SINK_SW0`: the 64 switch outputs at power-on, OPEN (R6, R42, D26). -/
opaque Config.sinkSw0 : Vector Bool 64

end Sys2Proof
end

