-- ==== Sys2Proof/Machine/Operands.lean ====
section
/-!
DEFINITION. How the fields of a frame are read from its bytes (30_encoding.md sections 1 and 2;
20_memory.md section 2), and where a slot's halves lie in the frame buffer.
-/

namespace Sys2Proof.Machine

/-- The version nibble, `b[3:0]` (R73). -/
def versionNibble (b : Byte) : Nibble := b.extractLsb' 0 4

/-- The don't-care bits of the version byte, `b[7:4]` (R73). -/
def highNibble (b : Byte) : Nibble := b.extractLsb' 4 4

/-- A version byte from its two nibbles (R73). -/
def versionByte (hi version : Nibble) : Byte := hi ++ version

/-- The V1 length byte is in its range (R74, R104, R105). -/
def lenOkV1 (b : Byte) : Bool :=
  decide (Config.v1LenMin ≤ b.toNat ∧ b.toNat ≤ Config.v1LenMax)

/-- The V3 length byte is in its range (R74, R108, R109). -/
def lenOkV3 (b : Byte) : Bool :=
  decide (Config.v3LenMin ≤ b.toNat ∧ b.toNat ≤ Config.v3LenMax)

/-- `nch` of a V1 frame: `L` (R74, R104). -/
def nchOfLenV1 (b : Byte) : Count7 := BitVec.ofNat 7 b.toNat

/-- `nch` of a V3 frame: `L - 2` (R74, R108). -/
def nchOfLenV3 (b : Byte) : Count7 := BitVec.ofNat 7 (b.toNat - Config.v3LenOffset)

/-- The function code is one of the six defined ones (R76, R160). -/
def functionDefined (b : Byte) : Bool := decide (b.toNat ≤ 5)

/-- Two bytes as a 16-bit value, the first received byte the more significant: a slot (R51) and the
received CRC (R52, R78). -/
def joinBytes (hi lo : Byte) : Word16 := hi ++ lo

/-- The high byte of a 16-bit value, `v[15:8]` (R8). -/
def highByte (v : Word16) : Byte := v.extractLsb' 8 8

/-- The low byte of a 16-bit value, `v[7:0]` (R8). -/
def lowByte (v : Word16) : Byte := v.extractLsb' 0 8

/-- Where `buf[k][15:8]` lies in the frame buffer, counted in bytes in the order they are received
(R51). DESIGN CHOICE, log entry 4: the spec numbers slots only. -/
def hiAddr (k : Nat) : Nat := 2 * k

/-- Where `buf[k][7:0]` lies in the frame buffer (R51; log entry 4). -/
def loAddr (k : Nat) : Nat := 2 * k + 1

end Sys2Proof.Machine
end

