-- ==== Sys2Proof/Machine/Flags.lean ====
section
/-!
DEFINITION. The two conditions a step computes from the registers. The block has no flag register
(10_state.md R32): each is computed and used within one step.
-/

namespace Sys2Proof.Machine

/-- The channel loop goes on: the new index is below the channel count (R107, R111). The sum is exact
(R9). -/
def morePairs (idx nch : Count7) : Bool := decide (idx.toNat + 1 < nch.toNat)

/-- "Equal" in state `CrcLow`: the received CRC is the accumulated one (R32, R78, R117). -/
def crcEqual (crc : Word16) (rxhi b : Byte) : Bool := decide (joinBytes rxhi b = crc)

end Sys2Proof.Machine
end

