-- ==== Sys2Proof/Syntax.lean ====
section
/-!
DEFINITION. The FSM positions, the frame variants, and the instructions: one constructor per row of
spec/opcode_table.json, that is, per byte class of an FSM state (30_encoding.md R81, R86).
-/

namespace Sys2Proof

/-- The 14 values of the `state` register, in the order of their codes (R21). -/
inductive FsmState where
  | idle
  | gotStart
  | startV1
  | v1High
  | v1Low
  | startV3
  | v3High
  | v3Low
  | v3FuncCode
  | v3LastValid
  | v3ModeCmd
  | v3SubCmd
  | crcHigh
  | crcLow
deriving DecidableEq, Repr

/-- The 4-bit code of an FSM position (R21). Codes 14 and 15 do not exist here (D28, log entry 13). -/
def FsmState.code : FsmState → BitVec 4
  | .idle => 0
  | .gotStart => 1
  | .startV1 => 2
  | .v1High => 3
  | .v1Low => 4
  | .startV3 => 5
  | .v3High => 6
  | .v3Low => 7
  | .v3FuncCode => 8
  | .v3LastValid => 9
  | .v3ModeCmd => 10
  | .v3SubCmd => 11
  | .crcHigh => 12
  | .crcLow => 13

/-- The values of the `variant` register (R27, R80). -/
inductive Variant where
  /-- `VAR_CH1_12`, "12 channels". -/
  | ch1to12
  /-- `VAR_CH1_8_13_16`, "8 + (13..16)". -/
  | ch1to8and13to16
  /-- `VAR_CH1_16`, "1..16", and the variant of every V1 frame. -/
  | ch1to16
  /-- `VAR_CH1_8_17_24`, "8 + (17..24)". -/
  | ch1to8and17to24
  /-- `VAR_CH1_8_25_32`, "8 + (25..32)". -/
  | ch1to8and25to32
  /-- `VAR_CH1_12_SW64`, "12 channels + 64 switches". -/
  | ch1to12sw64
  /-- `VAR_UNREC`, "unrecognized". -/
  | unrec
deriving DecidableEq, Repr

/-- The 3-bit variant code (R80). Code 6 does not exist here (I9, log entry 13). -/
def Variant.code : Variant → BitVec 3
  | .ch1to12 => 0
  | .ch1to8and13to16 => 1
  | .ch1to16 => 2
  | .ch1to8and17to24 => 3
  | .ch1to8and25to32 => 4
  | .ch1to12sw64 => 5
  | .unrec => 7

/-- The instructions: one byte in one state (R81). An operand is what the row leaves free of the byte:
all of it, its high nibble (the version rows, R73), or nothing (the six defined function codes, R160). -/
inductive Instr where
  /-- `IDLE.SOF` (R101 (a)): the start marker in `Idle`. -/
  | idleSof (b : Byte)
  /-- `IDLE.OTHER` (R101 (b)): any other byte in `Idle`. -/
  | idleOther (b : Byte)
  /-- `GOTSTART.V1` (R102): a version byte with low nibble `VER_V1`. -/
  | gotStartV1 (hi : Nibble)
  /-- `GOTSTART.V3` (R102): a version byte with low nibble `VER_V3`. -/
  | gotStartV3 (hi : Nibble)
  /-- `GOTSTART.BAD` (R103): a version byte with any other low nibble. -/
  | gotStartBad (b : Byte)
  /-- `STARTV1.LEN_OK` (R104): a V1 length byte in 2..32. -/
  | startV1LenOk (b : Byte)
  /-- `STARTV1.LEN_BAD` (R105): any other V1 length byte. -/
  | startV1LenBad (b : Byte)
  /-- `V1HIGH` (R106): the high byte of a V1 channel. -/
  | v1High (b : Byte)
  /-- `V1LOW.LOOP` (R107): the low byte of a V1 channel that another follows. -/
  | v1LowLoop (b : Byte)
  /-- `V1LOW.END` (R107): the low byte of the last V1 channel. -/
  | v1LowEnd (b : Byte)
  /-- `STARTV3.LEN_OK` (R108): a V3 length byte in 2..68. -/
  | startV3LenOk (b : Byte)
  /-- `STARTV3.LEN_BAD` (R109): any other V3 length byte. -/
  | startV3LenBad (b : Byte)
  /-- `V3HIGH` (R110): the high byte of a V3 channel. -/
  | v3High (b : Byte)
  /-- `V3LOW.LOOP` (R111): the low byte of a V3 channel that another follows. -/
  | v3LowLoop (b : Byte)
  /-- `V3LOW.END` (R111): the low byte of the last V3 channel pair. -/
  | v3LowEnd (b : Byte)
  /-- `V3FUNC.DEF` (R112 with R160): a defined function code. -/
  | v3FuncDef (b : Byte)
  /-- `V3FUNC.UNREC` (R112 with R161): an unrecognized function code. -/
  | v3FuncUnrec (b : Byte)
  /-- `V3LASTVALID` (R113). -/
  | v3LastValid (b : Byte)
  /-- `V3MODECMD` (R114). -/
  | v3ModeCmd (b : Byte)
  /-- `V3SUBCMD` (R115). -/
  | v3SubCmd (b : Byte)
  /-- `CRCHIGH` (R116): the high byte of the received CRC. -/
  | crcHigh (b : Byte)
  /-- `CRCLOW.MATCH` (R117): the low byte of a received CRC that equals `crc`. -/
  | crcLowMatch (b : Byte)
  /-- `CRCLOW.MISMATCH` (R118): the low byte of a received CRC that does not. -/
  | crcLowMismatch (b : Byte)
  /-- `FUNC.00` (R160): function code 0x00. -/
  | func00
  /-- `FUNC.01` (R160): function code 0x01. -/
  | func01
  /-- `FUNC.02` (R160): function code 0x02. -/
  | func02
  /-- `FUNC.03` (R160): function code 0x03. -/
  | func03
  /-- `FUNC.04` (R160): function code 0x04. -/
  | func04
  /-- `FUNC.05` (R160): function code 0x05. -/
  | func05
  /-- `FUNC.UNREC` (R161): a function code of 0x06 or above. -/
  | funcUnrec (b : Byte)
deriving DecidableEq, Repr

end Sys2Proof
end

