-- ==== Sys2Proof/WellFormed.lean ====
section
/-!
DEFINITION. What makes an instruction well formed (its byte is in the row's class) and in which
context its row is the one selected (30_encoding.md R81). Both are decidable.
-/

namespace Sys2Proof

/-- What a byte's class depends on beside the byte (R81, R119): the FSM position, the start marker,
and the registers the loop test and the CRC comparison read. -/
structure Ctx where
  fsm : FsmState
  startMarker : Byte
  idx : Count7
  nch : Count7
  rxhi : Byte
  crc : Word16
deriving DecidableEq, Repr

/-- The FSM state in which the row's byte is consumed: the table's `format` and `state` (R86). -/
def Instr.fsm : Instr → FsmState
  | .idleSof _ | .idleOther _ => .idle
  | .gotStartV1 _ | .gotStartV3 _ | .gotStartBad _ => .gotStart
  | .startV1LenOk _ | .startV1LenBad _ => .startV1
  | .v1High _ => .v1High
  | .v1LowLoop _ | .v1LowEnd _ => .v1Low
  | .startV3LenOk _ | .startV3LenBad _ => .startV3
  | .v3High _ => .v3High
  | .v3LowLoop _ | .v3LowEnd _ => .v3Low
  | .v3FuncDef _ | .v3FuncUnrec _ => .v3FuncCode
  | .v3LastValid _ => .v3LastValid
  | .v3ModeCmd _ => .v3ModeCmd
  | .v3SubCmd _ => .v3SubCmd
  | .crcHigh _ => .crcHigh
  | .crcLowMatch _ | .crcLowMismatch _ => .crcLow
  | .func00 | .func01 | .func02 | .func03 | .func04 | .func05 | .funcUnrec _ => .v3FuncCode

/-- The rows of the classifier's map (R86: "one row per function code class"). -/
def Instr.classifierRow : Instr → Bool
  | .func00 | .func01 | .func02 | .func03 | .func04 | .func05 | .funcUnrec _ => true
  | .idleSof _ | .idleOther _ | .gotStartV1 _ | .gotStartV3 _ | .gotStartBad _
  | .startV1LenOk _ | .startV1LenBad _ | .v1High _ | .v1LowLoop _ | .v1LowEnd _
  | .startV3LenOk _ | .startV3LenBad _ | .v3High _ | .v3LowLoop _ | .v3LowEnd _
  | .v3FuncDef _ | .v3FuncUnrec _ | .v3LastValid _ | .v3ModeCmd _ | .v3SubCmd _
  | .crcHigh _ | .crcLowMatch _ | .crcLowMismatch _ => false

/-- The operand is in the row's byte class, as far as the byte alone says (R81, R82). -/
def Instr.wellFormed : Instr → Bool
  | .gotStartBad b => Machine.versionNibble b != Config.verV1 && Machine.versionNibble b != Config.verV3
  | .startV1LenOk b => Machine.lenOkV1 b
  | .startV1LenBad b => !Machine.lenOkV1 b
  | .startV3LenOk b => Machine.lenOkV3 b
  | .startV3LenBad b => !Machine.lenOkV3 b
  | .v3FuncDef b => Machine.functionDefined b
  | .v3FuncUnrec b => !Machine.functionDefined b
  | .funcUnrec b => !Machine.functionDefined b
  | .idleSof _ | .idleOther _ | .gotStartV1 _ | .gotStartV3 _
  | .v1High _ | .v1LowLoop _ | .v1LowEnd _ | .v3High _ | .v3LowLoop _ | .v3LowEnd _
  | .v3LastValid _ | .v3ModeCmd _ | .v3SubCmd _ | .crcHigh _ | .crcLowMatch _ | .crcLowMismatch _
  | .func00 | .func01 | .func02 | .func03 | .func04 | .func05 => true

/-- The part of the row's condition that reads the parameters and the registers (R81, R119). -/
def Instr.condition (c : Ctx) : Instr → Bool
  | .idleSof b => b == c.startMarker
  | .idleOther b => b != c.startMarker
  | .v1LowLoop _ => Machine.morePairs c.idx c.nch
  | .v1LowEnd _ => !Machine.morePairs c.idx c.nch
  | .v3LowLoop _ => Machine.morePairs c.idx c.nch
  | .v3LowEnd _ => !Machine.morePairs c.idx c.nch
  | .crcLowMatch b => Machine.crcEqual c.crc c.rxhi b
  | .crcLowMismatch b => !Machine.crcEqual c.crc c.rxhi b
  | .gotStartV1 _ | .gotStartV3 _ | .gotStartBad _ | .startV1LenOk _ | .startV1LenBad _
  | .v1High _ | .startV3LenOk _ | .startV3LenBad _ | .v3High _
  | .v3FuncDef _ | .v3FuncUnrec _ | .v3LastValid _ | .v3ModeCmd _ | .v3SubCmd _ | .crcHigh _
  | .func00 | .func01 | .func02 | .func03 | .func04 | .func05 | .funcUnrec _ => true

/-- The context selects the row: its FSM state and its condition hold (R81, R86). -/
abbrev Instr.Fits (c : Ctx) (i : Instr) : Prop :=
  c.fsm = i.fsm ∧ i.condition c = true

end Sys2Proof
end

