-- ==== Sys2Proof/Decode.lean ====
section
/-!
DEFINITION. The byte-class map of 30_encoding.md R81 as a decoder, the classifier's map of the
function-code byte (R160, R161), and the encoder. The map covers every byte in every state (R81,
R163), so decoding never rejects.
-/

namespace Sys2Proof

/-- The row of R81 that byte `b` selects in context `c` (R81, R100, R119). In `V3FuncCode` it is the
first row that matches, as R86 says; the classifier's row of the same byte is `decodeFunction`. -/
def decode (c : Ctx) (b : Byte) : Instr :=
  match c.fsm with
  | .idle => if b = c.startMarker then .idleSof b else .idleOther b
  | .gotStart =>
    if Machine.versionNibble b = Config.verV1 then .gotStartV1 (Machine.highNibble b)
    else if Machine.versionNibble b = Config.verV3 then .gotStartV3 (Machine.highNibble b)
    else .gotStartBad b
  | .startV1 => if Machine.lenOkV1 b then .startV1LenOk b else .startV1LenBad b
  | .v1High => .v1High b
  | .v1Low => if Machine.morePairs c.idx c.nch then .v1LowLoop b else .v1LowEnd b
  | .startV3 => if Machine.lenOkV3 b then .startV3LenOk b else .startV3LenBad b
  | .v3High => .v3High b
  | .v3Low => if Machine.morePairs c.idx c.nch then .v3LowLoop b else .v3LowEnd b
  | .v3FuncCode => if Machine.functionDefined b then .v3FuncDef b else .v3FuncUnrec b
  | .v3LastValid => .v3LastValid b
  | .v3ModeCmd => .v3ModeCmd b
  | .v3SubCmd => .v3SubCmd b
  | .crcHigh => .crcHigh b
  | .crcLow => if Machine.crcEqual c.crc c.rxhi b then .crcLowMatch b else .crcLowMismatch b

/-- The row of the classifier's map that a function-code byte selects (R160, R161, R163). -/
def decodeFunction (b : Byte) : Instr :=
  if b = 0x00#8 then .func00
  else if b = 0x01#8 then .func01
  else if b = 0x02#8 then .func02
  else if b = 0x03#8 then .func03
  else if b = 0x04#8 then .func04
  else if b = 0x05#8 then .func05
  else .funcUnrec b

/-- Every row of spec/opcode_table.json that matches byte `b` in context `c`, in the table's order: one
row of R81's map, and for a function-code byte the classifier's row of the same byte too (R86). -/
def decodeRows (c : Ctx) (b : Byte) : List Instr :=
  match c.fsm with
  | .v3FuncCode => [decode c b, decodeFunction b]
  | .idle | .gotStart | .startV1 | .v1High | .v1Low | .startV3 | .v3High | .v3Low
  | .v3LastValid | .v3ModeCmd | .v3SubCmd | .crcHigh | .crcLow => [decode c b]

/-- The byte of an instruction, from the table's `match` and `mask` and the row's condition (R81, R86). -/
def encode : Instr → Byte
  | .idleSof b => b
  | .idleOther b => b
  | .gotStartV1 hi => Machine.versionByte hi Config.verV1
  | .gotStartV3 hi => Machine.versionByte hi Config.verV3
  | .gotStartBad b => b
  | .startV1LenOk b => b
  | .startV1LenBad b => b
  | .v1High b => b
  | .v1LowLoop b => b
  | .v1LowEnd b => b
  | .startV3LenOk b => b
  | .startV3LenBad b => b
  | .v3High b => b
  | .v3LowLoop b => b
  | .v3LowEnd b => b
  | .v3FuncDef b => b
  | .v3FuncUnrec b => b
  | .v3LastValid b => b
  | .v3ModeCmd b => b
  | .v3SubCmd b => b
  | .crcHigh b => b
  | .crcLowMatch b => b
  | .crcLowMismatch b => b
  | .func00 => 0x00#8
  | .func01 => 0x01#8
  | .func02 => 0x02#8
  | .func03 => 0x03#8
  | .func04 => 0x04#8
  | .func05 => 0x05#8
  | .funcUnrec b => b

/-- The FSM state in which a byte on its own is read, for `decodeTableWord`: the state of the row of
spec/opcode_table.json that fixes most of its bits (a function code fixes all eight, a version byte its
low nibble), and `Idle` for every other byte. DESIGN CHOICE, log entry 11: the table gives a byte no
meaning outside a state (R81). -/
def bareFsm (b : Byte) : FsmState :=
  if Machine.functionDefined b then .v3FuncCode
  else if Machine.versionNibble b = Config.verV1 ∨ Machine.versionNibble b = Config.verV3 then .gotStart
  else .idle

/-- The row that a byte on its own stands for, read in the state `bareFsm` gives it and under the built
block's start marker (log entry 11). -/
def decodeBare (b : Byte) : Instr :=
  match bareFsm b with
  | .v3FuncCode => decodeFunction b
  | st => decode ⟨st, Config.params.startMarker, 0, 0, 0, 0⟩ b

/-- The instruction that a table word of `nbits` bits stands for. Every instruction is one byte (R70). -/
def decodeTableWord (nbits w : Nat) : Option Instr :=
  if nbits = 8 ∧ w < 256 then some (decodeBare (BitVec.ofNat 8 w)) else none

end Sys2Proof
end

