-- ==== Sys2Proof/Machine/State.lean ====
section
/-!
DEFINITION. The machine's state (10_state.md R20 to R42), its faults and refusals, and the state after
reset (R35, R250, R251). Plain data.
-/

namespace Sys2Proof.Machine

/-- One clock edge of the input port (R40). -/
structure Edge where
  /-- `rst`. -/
  rst : Bool
  /-- `in_valid`. -/
  inValid : Bool
  /-- `in_byte`. -/
  inByte : Byte
deriving DecidableEq, Repr

/-- The output events (R11, R41). -/
inductive Event where
  /-- `FrameReady(variant, nch, slots)`: a CRC-valid frame and its meaningful slots. -/
  | frameReady (variant : Variant) (nch : Count7) (slots : List Word16)
  /-- `PulseWrite(j, p)`: output `j` takes the signed 16-bit pulse `p`. -/
  | pulseWrite (j : Nat) (p : Word16)
  /-- `SwitchWrite(i, s)`: switch `i` takes the boolean `s`. -/
  | switchWrite (i : Fin 64) (on : Bool)
  /-- `Valid`: the freshness signal. -/
  | valid
deriving DecidableEq, Repr

/-- The frame buffer: (byte address, byte) pairs in canonical form (`Memory.wf`). Byte `hiAddr k` is
`buf[k][15:8]`, byte `loAddr k` is `buf[k][7:0]` (R26, R51). A byte not listed is unwritten (R35; log
entry 3). -/
abbrev Memory := List Host.Cell

/-- The state of the block, with the storage and the interface beside it that R40 to R42 and R254 ask
the model to keep. -/
structure State where
  /-- The OPEN build-time parameters (R6). No step writes them (R7, R31). -/
  params : Params
  /-- `state`: the FSM position (R21, R22). -/
  fsm : FsmState
  /-- `crc`: the CRC accumulator (R23). -/
  crc : Word16
  /-- `nch`: the channel count (R24). -/
  nch : Count7
  /-- `idx`: the current slot index (R25). -/
  idx : Count7
  /-- `buf`: the frame buffer (R26). -/
  buf : Memory
  /-- `variant`: the frame classification (R27). -/
  variant : Variant
  /-- `rxhi`: the received CRC high byte (R28). -/
  rxhi : Byte
  /-- `pkt`: the packet counter (R29). -/
  pkt : BitVec 32
  /-- `pulses[0..N_OUT-1]`, collaborator storage (R42). -/
  pulses : List Word16
  /-- `switches[0..63]`, collaborator storage (R42). -/
  switches : Vector Bool 64
  /-- The clock edges offered and not yet taken, first edge first (R40; log entry 5). -/
  input : List Edge
  /-- The events emitted so far, first event first (R41, R254; log entry 6). -/
  out : List Event
deriving DecidableEq, Repr

/-- Why a step can stop with a fault. No state that a run reaches has one (R5, R34, R220); both are
raised only in states that break the invariant of R34. -/
inductive Fault where
  /-- Raised by the rules that write or read slot `k` of `buf` when `k >= BUF_CAP`: there is no such
  slot (R26, R34). Safe: the model stops. -/
  | noSuchSlot (k : Nat)
  /-- Raised by the completion step when it reads a slot `k` of which nothing has written some half
  (R35: "A model should treat a read of an unwritten register as a fault"). Safe: the model stops. -/
  | unwrittenSlot (k : Nat)
deriving DecidableEq, Repr

/-- Why a step can be refused. -/
inductive Refusal where
  /-- Raised by `exec` for an instruction that has no meaning yet; no instruction is left so. Safe. -/
  | notModelled (mnemonic : String)
deriving DecidableEq, Repr

/-- The three outcomes of a step of this machine. -/
abbrev Outcome := Host.Outcome State Fault Refusal

/-- The level output port `pkt_count` (R29, R41). -/
def State.pktCount (s : State) : BitVec 32 := s.pkt

/-- The machine at power-on: what a reset step leaves (R35, R250, R251), with the collaborator storage at
its OPEN contents (R42), no edge offered and no event emitted. `fsm` and `pkt` are the spec's values; the
values of `crc`, `nch`, `idx`, `variant` and `rxhi` are the model's: DESIGN CHOICE, log entry 1, unsafe. -/
def State.reset : State where
  params := Config.params
  fsm := .idle
  crc := 0
  nch := 0
  idx := 0
  buf := []
  variant := .ch1to12
  rxhi := 0
  pkt := 0
  pulses := Config.sinkPulse0
  switches := Config.sinkSw0
  input := []
  out := []

end Sys2Proof.Machine
end

