-- ==== Sys2Proof/Machine/Converter.lean ====
section
/-!
DEFINITION. The channel/switch converter (44_converter.md): the events it emits, as a function of the
frame and the parameters. `slots` is always `buf[0], …, buf[nch-1]`: the read gate of R181 ("only if
`k < nch`") is that slot `k` is in the list.
-/

namespace Sys2Proof.Machine

/-- `clamp(x, lo, hi)` (R9). -/
def clamp (x lo hi : Int) : Int := if x < lo then lo else if hi < x then hi else x

/-- `to_pulse(r)` (R183): the exact difference to `CENTER`, clamped; the result fits in 16 signed bits.
A raw value is unsigned (R182). -/
def toPulse (p : Params) (r : Word16) : Word16 :=
  BitVec.ofInt 16 (clamp ((r.toNat : Int) - (p.center.toNat : Int)) p.pulseMin.toInt p.pulseMax.toInt)

/-- `put(j, k)` (R183): copy slot `k` to output `j`, under the read gate (R181) and the capacity guard
(R192). -/
def put (p : Params) (slots : List Word16) (j k : Nat) : List Event :=
  match slots[k]? with
  | some r => if j < p.nOut then [.pulseWrite j (toPulse p r)] else []
  | none => []

/-- `for k in lo..lo+n-1: put(k + off, k)`, in ascending order. -/
def putRange (p : Params) (slots : List Word16) (lo n off : Nat) : List Event :=
  (List.range' lo n).flatMap fun k => put p slots (k + off) k

/-- `bitmap()` (R190): slots 12 to 15, big-endian; `none` when `nch < 16`. -/
def bitmap (slots : List Word16) : Option (BitVec 64) :=
  match slots[12]?, slots[13]?, slots[14]?, slots[15]? with
  | some a, some b, some c, some d => some (a ++ b ++ c ++ d)
  | _, _, _, _ => none

/-- `unpack_switches()` (R194): all 64 switches, true and false alike, if `nch >= 16`. -/
def unpackSwitches (slots : List Word16) : List Event :=
  match bitmap slots with
  | some bits => (List.finRange 64).map fun i => .switchWrite i (bits.getLsbD i)
  | none => []

/-- The copies of `VAR_CH1_12` (R184). -/
def convertCh1to12 (p : Params) (slots : List Word16) : List Event :=
  putRange p slots 0 12 0

/-- The copies of `VAR_CH1_8_13_16` (R185). -/
def convertCh1to8and13to16 (p : Params) (slots : List Word16) : List Event :=
  putRange p slots 0 8 0 ++ putRange p slots 8 4 4

/-- The copies of `VAR_CH1_16` (R186). -/
def convertCh1to16 (p : Params) (slots : List Word16) : List Event :=
  putRange p slots 0 16 0

/-- The copies of `VAR_CH1_8_17_24` (R187). -/
def convertCh1to8and17to24 (p : Params) (slots : List Word16) : List Event :=
  putRange p slots 0 8 0 ++ putRange p slots 8 8 8

/-- The copies of `VAR_CH1_8_25_32` (R188). -/
def convertCh1to8and25to32 (p : Params) (slots : List Word16) : List Event :=
  putRange p slots 0 8 0 ++ putRange p slots 8 8 16

/-- The copies and the switch unpack of `VAR_CH1_12_SW64` (R189). -/
def convertCh1to12sw64 (p : Params) (slots : List Word16) : List Event :=
  putRange p slots 0 12 0 ++ unpackSwitches slots

/-- `convert(buf, nch, variant)` (R195): the variant's copies, then `Valid` for the six named variants
(R196); nothing for `VAR_UNREC` (R191). -/
def convert (p : Params) (slots : List Word16) : Variant → List Event
  | .ch1to12 => convertCh1to12 p slots ++ [.valid]
  | .ch1to8and13to16 => convertCh1to8and13to16 p slots ++ [.valid]
  | .ch1to16 => convertCh1to16 p slots ++ [.valid]
  | .ch1to8and17to24 => convertCh1to8and17to24 p slots ++ [.valid]
  | .ch1to8and25to32 => convertCh1to8and25to32 p slots ++ [.valid]
  | .ch1to12sw64 => convertCh1to12sw64 p slots ++ [.valid]
  | .unrec => []

end Sys2Proof.Machine
end

