-- ==== Sys2Proof/Machine/Crc.lean ====
section
/-!
DEFINITION. The CRC-16 accumulator's operations (42_crc.md).
-/

namespace Sys2Proof.Machine

/-- `crc_reset()` (R140). -/
def crcReset : Word16 := Config.crcInit

/-- One of the 8 rounds of `crc_update`: shift left, and XOR with the polynomial if the top bit was set
(R141). -/
def crcRound (c : Word16) : Word16 :=
  if c.msb then (c <<< 1) ^^^ Config.crcPoly else c <<< 1

/-- `n` rounds (R141). -/
def crcRounds : Nat → Word16 → Word16
  | 0, c => c
  | n + 1, c => crcRounds n (crcRound c)

/-- `crc_update(c, b)` (R141): XOR the byte into the top 8 bits, then 8 rounds. -/
def crcUpdate (c : Word16) (b : Byte) : Word16 :=
  crcRounds 8 (c ^^^ (b.setWidth 16 <<< 8))

/-- `CRC16(s)` of a byte sequence (R142). -/
def crc16 (s : List Byte) : Word16 := s.foldl crcUpdate crcReset

/-- The byte-parallel form of one update (R143). -/
def crcUpdateParallel (c : Word16) (b : Byte) : Word16 :=
  let x := highByte c ^^^ b
  let x := x ^^^ (x >>> 4)
  (c <<< 8) ^^^ (x.setWidth 16 <<< 12) ^^^ (x.setWidth 16 <<< 5) ^^^ x.setWidth 16

end Sys2Proof.Machine
end

