-- ==== Sys2Proof/Machine/Ops.lean ====
section
/-!
DEFINITION. The named operations over the frame buffer, the registers, the events and the input port.
The block takes no exception (60_exceptions.md R220); what stands in an exception's place is the abort
(R224), `State.abort`.
-/

namespace Sys2Proof.Machine

/-! ### The frame buffer -/

/-- The byte at an address, `none` if nothing has written it. -/
def Memory.readByte : Memory → Nat → Option Byte
  | [], _ => none
  | (a, v) :: m, x => if x = a then some v else Memory.readByte m x

/-- Write one byte, keeping the addresses in rising order. -/
def Memory.writeByte : Memory → Nat → Byte → Memory
  | [], x, b => [(x, b)]
  | (a, v) :: m, x, b =>
    if x < a then (x, b) :: (a, v) :: m
    else if x = a then (x, b) :: m
    else (a, v) :: Memory.writeByte m x b

/-- The addresses rise strictly, from `lo` on. -/
def Memory.risingFrom : Nat → Memory → Bool
  | _, [] => true
  | lo, (a, _) :: m => decide (lo ≤ a) && Memory.risingFrom (a + 1) m

/-- The canonical form: addresses strictly rising, all of them bytes of the 66 slots. Every entry differs
from what an unlisted address reads as, since that is "unwritten". -/
def Memory.wf (m : Memory) : Bool :=
  Memory.risingFrom 0 m && m.all fun c => decide (c.1 < 2 * Config.bufCap)

/-- `BufWriteHi(k, b)` (R10): write `buf[k][15:8]`. -/
def bufWriteHi (m : Memory) (k : Nat) (b : Byte) : Except Fault Memory :=
  if k < Config.bufCap then .ok (m.writeByte (hiAddr k) b) else .error (.noSuchSlot k)

/-- `BufWriteLo(k, b)` (R10): write `buf[k][7:0]`. -/
def bufWriteLo (m : Memory) (k : Nat) (b : Byte) : Except Fault Memory :=
  if k < Config.bufCap then .ok (m.writeByte (loAddr k) b) else .error (.noSuchSlot k)

/-- `buf[k]` (R10, R51): the slot's two bytes, the high byte first. -/
def readSlot (m : Memory) (k : Nat) : Except Fault Word16 :=
  if k < Config.bufCap then
    match m.readByte (hiAddr k), m.readByte (loAddr k) with
    | some hi, some lo => .ok (joinBytes hi lo)
    | _, _ => .error (.unwrittenSlot k)
  else .error (.noSuchSlot k)

/-- `buf[k], …, buf[k+n-1]` (R41). -/
def readSlots (m : Memory) : Nat → Nat → Except Fault (List Word16)
  | _, 0 => .ok []
  | k, n + 1 =>
    match readSlot m k with
    | .error f => .error f
    | .ok v =>
      match readSlots m (k + 1) n with
      | .error f => .error f
      | .ok vs => .ok (v :: vs)

/-! ### Register updates -/

/-- `state <- st` (R10). -/
def State.goto (s : State) (st : FsmState) : State := { s with fsm := st }

/-- `crc <- c` (R10). -/
def State.setCrc (s : State) (c : Word16) : State := { s with crc := c }

/-- `crc <- crc_update(crc, b)` (R120, R141). -/
def State.fold (s : State) (b : Byte) : State := s.setCrc (crcUpdate s.crc b)

/-- `nch <- n; idx <- 0` (R104, R108). -/
def State.beginChannels (s : State) (n : Count7) : State := { s with nch := n, idx := 0 }

/-- `idx <- idx + 1` (R107, R111). -/
def State.nextSlot (s : State) : State := { s with idx := s.idx + 1 }

/-- The frame buffer after a write. -/
def State.setBuf (s : State) (m : Memory) : State := { s with buf := m }

/-- `variant <- v` (R107, R112). -/
def State.setVariant (s : State) (v : Variant) : State := { s with variant := v }

/-- `rxhi <- b` (R116). -/
def State.setRxhi (s : State) (b : Byte) : State := { s with rxhi := b }

/-- `pkt <- (pkt + 1) mod 2^32` (R117). -/
def State.countFrame (s : State) : State := { s with pkt := s.pkt + 1 }

/-- `abort` (R10, R224): back to `Idle`, no other register written, no event. -/
def State.abort (s : State) : State := s.goto .idle

/-! ### Events -/

/-- `emit E` (R10), and what the collaborators' storage does on receiving it (R42). -/
def State.emit (s : State) (e : Event) : State :=
  match e with
  | .frameReady _ _ _ => { s with out := s.out ++ [e] }
  | .pulseWrite j p => { s with out := s.out ++ [e], pulses := s.pulses.set j p }
  | .switchWrite i on => { s with out := s.out ++ [e], switches := s.switches.set i.val on i.isLt }
  | .valid => { s with out := s.out ++ [e] }

/-- Emit a list of events in order (R60). -/
def State.emitAll (s : State) : List Event → State
  | [] => s
  | e :: es => (s.emit e).emitAll es

/-! ### The input port -/

/-- The context in which the next byte is read (R81). -/
def State.ctx (s : State) : Ctx :=
  ⟨s.fsm, s.params.startMarker, s.idx, s.nch, s.rxhi, s.crc⟩

/-- An edge that offers byte `b` (R40). -/
def Edge.offer (b : Byte) : Edge := ⟨false, true, b⟩

/-- Take the next edge of the input port, if one is offered. -/
def fetch (s : State) : Option (Edge × State) :=
  match s.input with
  | [] => none
  | e :: rest => some (e, { s with input := rest })

/-- A reset step (R250): every register to its value after reset (R35; log entries 1 and 2), the frame
buffer unwritten. No event, and the collaborators' storage is not touched. -/
def State.resetStep (s : State) : State :=
  { s with
    fsm := .idle
    crc := State.reset.crc
    nch := State.reset.nch
    idx := State.reset.idx
    buf := State.reset.buf
    variant := State.reset.variant
    rxhi := State.reset.rxhi
    pkt := 0 }

/-- `s` with byte `b` offered on the next edge, the FSM standing where a row reads such a byte on its own
(log entry 11). -/
def State.offerBare (s : State) (st : FsmState) (b : Byte) : State :=
  { s with fsm := st, input := Edge.offer b :: s.input }

/-! ### Steps that several rows share -/

/-- A step that folds its byte and moves on (R102, R113, R114, R115). -/
def foldThen (b : Byte) (st : FsmState) (s : State) : Outcome :=
  .next ((s.fold b).goto st)

/-- A step that accepts a length byte (R104, R108). -/
def acceptLength (b : Byte) (n : Count7) (st : FsmState) (s : State) : Outcome :=
  .next (((s.fold b).beginChannels n).goto st)

/-- A step that stores the high byte of slot `idx` (R106, R110). -/
def storeHigh (b : Byte) (st : FsmState) (s : State) : Outcome :=
  match bufWriteHi s.buf s.idx.toNat b with
  | .error f => .fault f
  | .ok m => .next (((s.fold b).setBuf m).goto st)

/-- A step that stores the low byte of slot `idx` and advances the index (R107, R111). -/
def storeLow (b : Byte) (st : FsmState) (s : State) : Outcome :=
  match bufWriteLo s.buf s.idx.toNat b with
  | .error f => .fault f
  | .ok m => .next ((((s.fold b).setBuf m).nextSlot).goto st)

/-- A step that takes a function-code byte, classified as `v` (R112). -/
def functionStep (b : Byte) (v : Variant) (s : State) : Outcome :=
  .next (((s.fold b).setVariant v).goto .v3LastValid)

end Sys2Proof.Machine
end

