-- ==== Sys2Proof/Machine/CrcCheck.lean ====
section
/-!
DEFINITION. The rows of states `CrcHigh` and `CrcLow`: the CRC check and the completion step
(41_decoder_fsm.md section 5).
-/

namespace Sys2Proof.Machine

/-- The events of a completion step, in order (R117, R197): `FrameReady`, then the conversion. -/
def completionEvents (s : State) (slots : List Word16) : List Event :=
  .frameReady s.variant s.nch slots :: convert s.params slots s.variant

/-- The completion step (R117): count the frame, signal it, convert it, go to `Idle`. No register but
`pkt` and `state` is written. -/
def completeFrame (s : State) : Outcome :=
  match readSlots s.buf 0 s.nch.toNat with
  | .error f => .fault f
  | .ok slots => .next ((s.countFrame.emitAll (completionEvents s slots)).goto .idle)

/-- `CRCHIGH` (R116): not folded. -/
def execCrcHigh (b : Byte) (s : State) : Outcome :=
  .next ((s.setRxhi b).goto .crcLow)

/-- `CRCLOW.MATCH` (R117). -/
def execCrcLowMatch (_b : Byte) (s : State) : Outcome :=
  completeFrame s

/-- `CRCLOW.MISMATCH` (R118): the frame is discarded silently (anomaly A_CRC, R221). -/
def execCrcLowMismatch (_b : Byte) (s : State) : Outcome :=
  .next s.abort

end Sys2Proof.Machine
end

