-- ==== Sys2Proof/Machine/Classifier.lean ====
section
/-!
DEFINITION. The frame classifier (43_classifier.md).
-/

namespace Sys2Proof.Machine

/-- `classify(f)`: the variant a V3 function-code byte selects (R160, R161, R163). The order of codes
0x00 to 0x04 is the spec's decision D32, log entry 15. -/
def classify (f : Byte) : Variant :=
  if f = 0x00#8 then .ch1to12
  else if f = 0x01#8 then .ch1to8and13to16
  else if f = 0x02#8 then .ch1to16
  else if f = 0x03#8 then .ch1to8and17to24
  else if f = 0x04#8 then .ch1to8and25to32
  else if f = 0x05#8 then .ch1to12sw64
  else .unrec

/-- The variant of every V1 frame (R107, R162). -/
def v1Variant : Variant := .ch1to16

end Sys2Proof.Machine
end

