-- ==== Sys2Proof/Machine/FrameV1.lean ====
section
/-!
DEFINITION. The rows of the V1 states (41_decoder_fsm.md section 3).
-/

namespace Sys2Proof.Machine

/-- `STARTV1.LEN_OK` (R104). -/
def execStartV1LenOk (b : Byte) (s : State) : Outcome :=
  acceptLength b (nchOfLenV1 b) .v1High s

/-- `STARTV1.LEN_BAD` (R105): abort, the byte is not folded (anomaly A_LEN_V1, R221). -/
def execStartV1LenBad (_b : Byte) (s : State) : Outcome :=
  .next s.abort

/-- `V1HIGH` (R106). -/
def execV1High (b : Byte) (s : State) : Outcome :=
  storeHigh b .v1Low s

/-- `V1LOW.LOOP` (R107). -/
def execV1LowLoop (b : Byte) (s : State) : Outcome :=
  storeLow b .v1High s

/-- `V1LOW.END` (R107): the frame's variant is fixed, whatever its length (R162). -/
def execV1LowEnd (b : Byte) (s : State) : Outcome :=
  storeLow b .crcHigh (s.setVariant v1Variant)

end Sys2Proof.Machine
end

