-- ==== Sys2Proof/Machine/FrameV3.lean ====
section
/-!
DEFINITION. The rows of the V3 states (41_decoder_fsm.md section 4).
-/

namespace Sys2Proof.Machine

/-- `STARTV3.LEN_OK` (R108). -/
def execStartV3LenOk (b : Byte) (s : State) : Outcome :=
  acceptLength b (nchOfLenV3 b) .v3High s

/-- `STARTV3.LEN_BAD` (R109): abort, the byte is not folded (anomaly A_LEN_V3, R221). -/
def execStartV3LenBad (_b : Byte) (s : State) : Outcome :=
  .next s.abort

/-- `V3HIGH` (R110). -/
def execV3High (b : Byte) (s : State) : Outcome :=
  storeHigh b .v3Low s

/-- `V3LOW.LOOP` (R111). -/
def execV3LowLoop (b : Byte) (s : State) : Outcome :=
  storeLow b .v3High s

/-- `V3LOW.END` (R111): the trailer follows; `variant` is not written here. -/
def execV3LowEnd (b : Byte) (s : State) : Outcome :=
  storeLow b .v3FuncCode s

/-- `V3FUNC.DEF` (R112 with R160). -/
def execV3FuncDef (b : Byte) (s : State) : Outcome :=
  functionStep b (classify b) s

/-- `V3FUNC.UNREC` (R112 with R161): no abort (anomaly A_UNREC, R221). -/
def execV3FuncUnrec (b : Byte) (s : State) : Outcome :=
  functionStep b .unrec s

/-- `V3LASTVALID` (R113): the value is not retained. -/
def execV3LastValid (b : Byte) (s : State) : Outcome :=
  foldThen b .v3ModeCmd s

/-- `V3MODECMD` (R114): the value is not retained. -/
def execV3ModeCmd (b : Byte) (s : State) : Outcome :=
  foldThen b .v3SubCmd s

/-- `V3SUBCMD` (R115): the last byte folded; the value is not retained. -/
def execV3SubCmd (b : Byte) (s : State) : Outcome :=
  foldThen b .crcHigh s

end Sys2Proof.Machine
end

