-- ==== Sys2Proof/Machine/Func.lean ====
section
/-!
DEFINITION. The classifier's rows (43_classifier.md): the step that takes the function-code byte, with
the variant R160 or R161 gives it (R112; log entry 9).
-/

namespace Sys2Proof.Machine

/-- `FUNC.00` (R160): `VAR_CH1_12`. -/
def execFunc00 (s : State) : Outcome := functionStep 0x00#8 .ch1to12 s

/-- `FUNC.01` (R160): `VAR_CH1_8_13_16`. -/
def execFunc01 (s : State) : Outcome := functionStep 0x01#8 .ch1to8and13to16 s

/-- `FUNC.02` (R160): `VAR_CH1_16`. -/
def execFunc02 (s : State) : Outcome := functionStep 0x02#8 .ch1to16 s

/-- `FUNC.03` (R160): `VAR_CH1_8_17_24`. -/
def execFunc03 (s : State) : Outcome := functionStep 0x03#8 .ch1to8and17to24 s

/-- `FUNC.04` (R160): `VAR_CH1_8_25_32`. -/
def execFunc04 (s : State) : Outcome := functionStep 0x04#8 .ch1to8and25to32 s

/-- `FUNC.05` (R160): `VAR_CH1_12_SW64`. -/
def execFunc05 (s : State) : Outcome := functionStep 0x05#8 .ch1to12sw64 s

/-- `FUNC.UNREC` (R161): `VAR_UNREC`, and the frame is not aborted. -/
def execFuncUnrec (b : Byte) (s : State) : Outcome := functionStep b .unrec s

end Sys2Proof.Machine
end

