-- ==== Sys2Proof/Machine/Start.lean ====
section
/-!
DEFINITION. The rows of states `Idle` and `GotStart` (41_decoder_fsm.md section 2).
-/

namespace Sys2Proof.Machine

/-- `IDLE.SOF` (R101 (a)): the CRC starts afresh with the marker. -/
def execIdleSof (b : Byte) (s : State) : Outcome :=
  .next ((s.setCrc (crcUpdate crcReset b)).goto .gotStart)

/-- `IDLE.OTHER` (R101 (b)): the byte is discarded (anomaly A_NOISE, R221). -/
def execIdleOther (_b : Byte) (s : State) : Outcome :=
  .next (s.goto .idle)

/-- `GOTSTART.V1` (R102). -/
def execGotStartV1 (hi : Nibble) (s : State) : Outcome :=
  foldThen (versionByte hi Config.verV1) .startV1 s

/-- `GOTSTART.V3` (R102). -/
def execGotStartV3 (hi : Nibble) (s : State) : Outcome :=
  foldThen (versionByte hi Config.verV3) .startV3 s

/-- `GOTSTART.BAD` (R103): fold, then abort (anomaly A_VERSION, R221). -/
def execGotStartBad (b : Byte) (s : State) : Outcome :=
  .next (s.fold b).abort

end Sys2Proof.Machine
end

