-- ==== Sys2Proof/Machine/Dispatch.lean ====
section
/-!
DEFINITION. One arm per row of spec/opcode_table.json.
-/

namespace Sys2Proof.Machine

def exec (i : Instr) (s : State) : Host.Outcome State Fault Refusal :=
  match i with
  | .idleSof b => Sys2Proof.Machine.execIdleSof b s
  | .idleOther b => Sys2Proof.Machine.execIdleOther b s
  | .gotStartV1 hi => Sys2Proof.Machine.execGotStartV1 hi s
  | .gotStartV3 hi => Sys2Proof.Machine.execGotStartV3 hi s
  | .gotStartBad b => Sys2Proof.Machine.execGotStartBad b s
  | .startV1LenOk b => Sys2Proof.Machine.execStartV1LenOk b s
  | .startV1LenBad b => Sys2Proof.Machine.execStartV1LenBad b s
  | .v1High b => Sys2Proof.Machine.execV1High b s
  | .v1LowLoop b => Sys2Proof.Machine.execV1LowLoop b s
  | .v1LowEnd b => Sys2Proof.Machine.execV1LowEnd b s
  | .startV3LenOk b => Sys2Proof.Machine.execStartV3LenOk b s
  | .startV3LenBad b => Sys2Proof.Machine.execStartV3LenBad b s
  | .v3High b => Sys2Proof.Machine.execV3High b s
  | .v3LowLoop b => Sys2Proof.Machine.execV3LowLoop b s
  | .v3LowEnd b => Sys2Proof.Machine.execV3LowEnd b s
  | .v3FuncDef b => Sys2Proof.Machine.execV3FuncDef b s
  | .v3FuncUnrec b => Sys2Proof.Machine.execV3FuncUnrec b s
  | .v3LastValid b => Sys2Proof.Machine.execV3LastValid b s
  | .v3ModeCmd b => Sys2Proof.Machine.execV3ModeCmd b s
  | .v3SubCmd b => Sys2Proof.Machine.execV3SubCmd b s
  | .crcHigh b => Sys2Proof.Machine.execCrcHigh b s
  | .crcLowMatch b => Sys2Proof.Machine.execCrcLowMatch b s
  | .crcLowMismatch b => Sys2Proof.Machine.execCrcLowMismatch b s
  | .func00 => Sys2Proof.Machine.execFunc00 s
  | .func01 => Sys2Proof.Machine.execFunc01 s
  | .func02 => Sys2Proof.Machine.execFunc02 s
  | .func03 => Sys2Proof.Machine.execFunc03 s
  | .func04 => Sys2Proof.Machine.execFunc04 s
  | .func05 => Sys2Proof.Machine.execFunc05 s
  | .funcUnrec b => Sys2Proof.Machine.execFuncUnrec b s

end Sys2Proof.Machine
end

