-- ==== Sys2Proof/Machine/Step.lean ====
section
/-!
DEFINITION. One step: one clock edge of the input port (10_state.md R40; 00_scope.md R5).
-/

namespace Sys2Proof.Machine

/-- What one clock edge does (R40, R250): `rst` wins over a byte (R226); without a valid byte nothing
changes (R233); a byte runs its row (R100). -/
def edgeStep (e : Edge) (s : State) : Host.Outcome State Fault Refusal :=
  if e.rst then .next s.resetStep
  else if e.inValid then exec (decode s.ctx e.inByte) s
  else .next s

/-- One step. With no edge offered the block holds all its registers (R40, R233; log entry 5). -/
def step (s : State) : Host.Outcome State Fault Refusal :=
  match fetch s with
  | none => .next s
  | some (e, s') => edgeStep e s'

/-- `s` with a table word offered as the next byte, in the FSM state in which `decodeTableWord` reads it
(log entry 11). -/
def State.withFetchWord (s : State) (_nbits w : Nat) : State :=
  s.offerBare (bareFsm (BitVec.ofNat 8 w)) (BitVec.ofNat 8 w)

end Sys2Proof.Machine
end

