-- ==== Sys2Proof/Safety.lean ====
section
/-!
DEFINITION. The terms the statements use: the invariant of 10_state.md R34, which parts of two states a
later output can depend on (R30, R33, R35), runs of several steps (R254), whole frames as byte strings
(R71, R72, R85), and the tables of R80, R119, R120 and R198 written out on their own.
-/

namespace Sys2Proof.Safety

open Sys2Proof.Machine

/-! ### The invariant of the reachable states: R34's ranges and written slots -/

/-- The first `n` bytes of the frame buffer are written. -/
def WrittenBelow (m : Memory) (n : Nat) : Prop := ∀ a, a < n → (m.readByte a).isSome = true

/-- Of what R34 says of each FSM state: the rows on `nch` and `idx`, and that the slots below `idx` are
written. R34's other rows (`crc`, `variant`, "in this frame") need the frame's bytes: `FrameSoFar`. -/
def FrameInv (s : State) : Prop :=
  match s.fsm with
  | .idle | .gotStart | .startV1 | .startV3 => True
  | .v1High =>
    2 ≤ s.nch.toNat ∧ s.nch.toNat ≤ 32 ∧ s.idx.toNat < s.nch.toNat ∧ WrittenBelow s.buf (hiAddr s.idx.toNat)
  | .v1Low =>
    2 ≤ s.nch.toNat ∧ s.nch.toNat ≤ 32 ∧ s.idx.toNat < s.nch.toNat ∧ WrittenBelow s.buf (loAddr s.idx.toNat)
  | .v3High =>
    s.nch.toNat ≤ 66 ∧ s.idx.toNat < max s.nch.toNat 1 ∧ WrittenBelow s.buf (hiAddr s.idx.toNat)
  | .v3Low =>
    s.nch.toNat ≤ 66 ∧ s.idx.toNat < max s.nch.toNat 1 ∧ WrittenBelow s.buf (loAddr s.idx.toNat)
  | .v3FuncCode | .v3LastValid | .v3ModeCmd | .v3SubCmd | .crcHigh | .crcLow =>
    s.nch.toNat ≤ 66 ∧ s.idx.toNat = max s.nch.toNat 1 ∧ WrittenBelow s.buf (hiAddr s.idx.toNat)

/-- The invariant: the frame buffer is canonical (log entry 4; so it has no slot at 66 or above), the pulse
outputs are `N_OUT` many (R42), the parameters meet R6, and R34's rows on `nch`, `idx` and the written
slots. -/
def BlockInv (s : State) : Prop :=
  s.buf.wf = true ∧ s.pulses.length = s.params.nOut ∧ s.params.Valid ∧ FrameInv s

/-! ### What a later output can depend on (R30, R33, R35) -/

/-- Two frame buffers agree on their first `n` bytes. -/
def SameBelow (m m' : Memory) (n : Nat) : Prop := ∀ a, a < n → m.readByte a = m'.readByte a

/-- What two states must share of the frame in progress, by FSM state: only what the rest of the frame
reads before writing it (R35). -/
def FrameLive (s t : State) : Prop :=
  match s.fsm with
  | .idle => True
  | .gotStart | .startV1 | .startV3 => s.crc = t.crc
  | .v1High | .v3High =>
    s.crc = t.crc ∧ s.nch = t.nch ∧ s.idx = t.idx ∧ SameBelow s.buf t.buf (hiAddr s.idx.toNat)
  | .v1Low | .v3Low =>
    s.crc = t.crc ∧ s.nch = t.nch ∧ s.idx = t.idx ∧ SameBelow s.buf t.buf (loAddr s.idx.toNat)
  | .v3FuncCode =>
    s.crc = t.crc ∧ s.nch = t.nch ∧ SameBelow s.buf t.buf (hiAddr s.nch.toNat)
  | .v3LastValid | .v3ModeCmd | .v3SubCmd | .crcHigh =>
    s.crc = t.crc ∧ s.nch = t.nch ∧ s.variant = t.variant ∧ SameBelow s.buf t.buf (hiAddr s.nch.toNat)
  | .crcLow =>
    s.crc = t.crc ∧ s.nch = t.nch ∧ s.variant = t.variant ∧ s.rxhi = t.rxhi ∧
      SameBelow s.buf t.buf (hiAddr s.nch.toNat)

/-- What an observer sees of a state: the counter, the collaborators' storage and the events (R41, R42). -/
def SameOutputs (s t : State) : Prop :=
  s.pkt = t.pkt ∧ s.pulses = t.pulses ∧ s.switches = t.switches ∧ s.out = t.out

/-- Two states that no later byte can tell apart: same parameters, same FSM state, same input to come,
same outputs so far, and the live part of the frame. -/
def Indistinguishable (s t : State) : Prop :=
  s.params = t.params ∧ s.fsm = t.fsm ∧ s.input = t.input ∧ SameOutputs s t ∧ FrameLive s t

/-! ### Runs -/

/-- `n` steps, stopping at the first fault or refusal. -/
def runSteps : Nat → State → Outcome
  | 0, s => .next s
  | n + 1, s =>
    match step s with
    | .next s' => runSteps n s'
    | .fault f => .fault f
    | .refused r => .refused r

/-- Byte `b`, offered in state `s`, selects row `i`: the decoder reads it so, and the step that takes the
byte runs `i` on the state that has taken it (R81, R100). -/
def Selects (s : State) (b : Byte) (i : Instr) : Prop :=
  decode s.ctx b = i ∧
    ∀ rest, s.input = Edge.offer b :: rest → step s = exec i { s with input := rest }

/-- The edges that offer a byte sequence, one byte an edge (R40). -/
def offers (bs : List Byte) : List Edge := bs.map Edge.offer

/-! ### Frames as byte strings (R71, R72, R79, R85) -/

/-- Channel pairs, each slot big-endian (R51, R84 `CH`). -/
def channelBytes : List Word16 → List Byte
  | [] => []
  | v :: vs => highByte v :: lowByte v :: channelBytes vs

/-- The CRC-covered bytes of a V1 frame (R71): marker, version byte with don't-care high nibble `hi`,
length, channels. -/
def coveredV1 (marker : Byte) (hi : Nibble) (vs : List Word16) : List Byte :=
  marker :: versionByte hi Config.verV1 :: BitVec.ofNat 8 vs.length :: channelBytes vs

/-- The CRC-covered bytes of a V3 frame (R72): marker, version byte, length byte `nch + 2`, the pairs
consumed, function code, last valid package, mode command, sub-command. -/
def coveredV3 (marker : Byte) (hi : Nibble) (nch : Nat) (pairs : List Word16) (f x y z : Byte) : List Byte :=
  marker :: versionByte hi Config.verV3 :: BitVec.ofNat 8 (nch + 2) :: (channelBytes pairs ++ [f, x, y, z])

/-! ### The frame in progress (R34, all rows) -/

/-- The frame buffer holds `data` from its first byte on: slot by slot, high byte first (R51). -/
def HoldsBytes (m : Memory) (data : List Byte) : Prop :=
  ∀ a (h : a < data.length), m.readByte a = some data[a]

/-- `fr` is the start of a V1 frame (R71) whose length byte gave `nch`, and whose channel bytes, `extra`
beyond slot `idx`, stand in the frame buffer. -/
def InV1 (s : State) (fr : List Byte) (extra : Nat) : Prop :=
  ∃ (hi : Nibble) (len : Byte) (data : List Byte),
    fr = s.params.startMarker :: versionByte hi Config.verV1 :: len :: data ∧
    2 ≤ len.toNat ∧ len.toNat ≤ 32 ∧ s.nch.toNat = len.toNat ∧
    data.length = 2 * s.idx.toNat + extra ∧ HoldsBytes s.buf data

/-- `fr` is the start of a V3 frame (R72): as `InV1`, with the trailer bytes `trailer` after the channels. -/
def InV3 (s : State) (fr : List Byte) (extra : Nat) (trailer : List Byte) : Prop :=
  ∃ (hi : Nibble) (len : Byte) (data : List Byte),
    fr = s.params.startMarker :: versionByte hi Config.verV3 :: len :: (data ++ trailer) ∧
    2 ≤ len.toNat ∧ len.toNat ≤ 68 ∧ s.nch.toNat = len.toNat - 2 ∧
    data.length = 2 * s.idx.toNat + extra ∧ HoldsBytes s.buf data

/-- All rows of R34: `fr` is the bytes of the frame in progress, CRC bytes excluded; `crc` is their CRC;
`nch`, `idx`, the slots below `idx` and `variant` are what those bytes made them, in this frame. -/
def FrameSoFar (s : State) (fr : List Byte) : Prop :=
  (s.fsm ≠ .idle → s.crc = crc16 fr) ∧
  match s.fsm with
  | .idle => fr = []
  | .gotStart => fr = [s.params.startMarker]
  | .startV1 => ∃ hi, fr = [s.params.startMarker, versionByte hi Config.verV1]
  | .startV3 => ∃ hi, fr = [s.params.startMarker, versionByte hi Config.verV3]
  | .v1High => InV1 s fr 0 ∧ s.idx.toNat < s.nch.toNat
  | .v1Low => InV1 s fr 1 ∧ s.idx.toNat < s.nch.toNat
  | .v3High => InV3 s fr 0 [] ∧ s.idx.toNat < max s.nch.toNat 1
  | .v3Low => InV3 s fr 1 [] ∧ s.idx.toNat < max s.nch.toNat 1
  | .v3FuncCode => InV3 s fr 0 [] ∧ s.idx.toNat = max s.nch.toNat 1
  | .v3LastValid => ∃ f, InV3 s fr 0 [f] ∧ s.idx.toNat = max s.nch.toNat 1 ∧ s.variant = classify f
  | .v3ModeCmd => ∃ f x, InV3 s fr 0 [f, x] ∧ s.idx.toNat = max s.nch.toNat 1 ∧ s.variant = classify f
  | .v3SubCmd => ∃ f x y, InV3 s fr 0 [f, x, y] ∧ s.idx.toNat = max s.nch.toNat 1 ∧ s.variant = classify f
  | .crcHigh | .crcLow =>
    (InV1 s fr 0 ∧ s.idx.toNat = s.nch.toNat ∧ s.variant = .ch1to16) ∨
    ∃ f x y z, InV3 s fr 0 [f, x, y, z] ∧ s.idx.toNat = max s.nch.toNat 1 ∧ s.variant = classify f

/-! ### The spec's tables -/

/-- The next-state table of R119. -/
def nextFsm (c : Ctx) (b : Byte) : FsmState :=
  match c.fsm with
  | .idle => if b = c.startMarker then .gotStart else .idle
  | .gotStart =>
    if b.toNat % 16 = 1 then .startV1 else if b.toNat % 16 = 3 then .startV3 else .idle
  | .startV1 => if 2 ≤ b.toNat ∧ b.toNat ≤ 32 then .v1High else .idle
  | .v1High => .v1Low
  | .v1Low => if c.idx.toNat + 1 < c.nch.toNat then .v1High else .crcHigh
  | .startV3 => if 2 ≤ b.toNat ∧ b.toNat ≤ 68 then .v3High else .idle
  | .v3High => .v3Low
  | .v3Low => if c.idx.toNat + 1 < c.nch.toNat then .v3High else .v3FuncCode
  | .v3FuncCode => .v3LastValid
  | .v3LastValid => .v3ModeCmd
  | .v3ModeCmd => .v3SubCmd
  | .v3SubCmd => .crcHigh
  | .crcHigh => .crcLow
  | .crcLow => .idle

/-- The bytes of the frame in progress after the next edge: a reset, an abort, a completion and a byte
discarded in `Idle` leave none; the two CRC bytes are not counted among them; any other byte is appended
(R40, R79, R250). -/
def frameAfter (s : State) (fr : List Byte) : List Byte :=
  match s.input with
  | [] => fr
  | e :: _ =>
    if e.rst then []
    else if e.inValid then
      if nextFsm s.ctx e.inByte = .idle then [] else if s.fsm = .crcHigh then fr else fr ++ [e.inByte]
    else fr

/-- The next edge offers, in `CrcLow`, the byte that completes a received CRC equal to `crc`: the step is a
completion (R117). -/
def Completes (s : State) : Prop :=
  s.fsm = .crcLow ∧
    ∃ b rest, s.input = Edge.offer b :: rest ∧ s.rxhi.toNat * 256 + b.toNat = s.crc.toNat

/-- `crc` after a byte, by the fold summary of R120: which rules fold, and from which value. -/
def nextCrc (c : Ctx) (b : Byte) : Word16 :=
  match c.fsm with
  | .idle => if b = c.startMarker then crcUpdate crcReset b else c.crc
  | .startV1 => if 2 ≤ b.toNat ∧ b.toNat ≤ 32 then crcUpdate c.crc b else c.crc
  | .startV3 => if 2 ≤ b.toNat ∧ b.toNat ≤ 68 then crcUpdate c.crc b else c.crc
  | .gotStart | .v1High | .v1Low | .v3High | .v3Low
  | .v3FuncCode | .v3LastValid | .v3ModeCmd | .v3SubCmd => crcUpdate c.crc b
  | .crcHigh | .crcLow => c.crc

/-- The output table of R80 and R184 to R189: from which slot a variant takes pulse output `j`, if it
maps that output at all. -/
def sourceSlot (v : Variant) (j : Nat) : Option Nat :=
  match v with
  | .ch1to12 | .ch1to12sw64 => if j < 12 then some j else none
  | .ch1to8and13to16 =>
    if j < 8 then some j else if 12 ≤ j ∧ j < 16 then some (j - 4) else none
  | .ch1to16 => if j < 16 then some j else none
  | .ch1to8and17to24 =>
    if j < 8 then some j else if 16 ≤ j ∧ j < 24 then some (j - 8) else none
  | .ch1to8and25to32 =>
    if j < 8 then some j else if 24 ≤ j ∧ j < 32 then some (j - 16) else none
  | .unrec => none

/-- `W(v, nch, N_OUT)`, the number of `PulseWrite` events (R198). -/
def pulseCount (v : Variant) (nch nOut : Nat) : Nat :=
  match v with
  | .ch1to12 | .ch1to12sw64 => min nch (min 12 nOut)
  | .ch1to8and13to16 =>
    min nch (min 8 nOut) + ((List.range 12).filter fun k => decide (8 ≤ k ∧ k < nch ∧ k + 4 < nOut)).length
  | .ch1to16 => min nch (min 16 nOut)
  | .ch1to8and17to24 =>
    min nch (min 8 nOut) + ((List.range 16).filter fun k => decide (8 ≤ k ∧ k < nch ∧ k + 8 < nOut)).length
  | .ch1to8and25to32 =>
    min nch (min 8 nOut) + ((List.range 16).filter fun k => decide (8 ≤ k ∧ k < nch ∧ k + 16 < nOut)).length
  | .unrec => 0

/-- `S`, the number of `SwitchWrite` events (R198). -/
def switchCount (v : Variant) (nch : Nat) : Nat :=
  match v with
  | .ch1to12sw64 => if 16 ≤ nch then 64 else 0
  | .ch1to12 | .ch1to8and13to16 | .ch1to16 | .ch1to8and17to24 | .ch1to8and25to32 | .unrec => 0

/-- An event is a `FrameReady`. -/
def isFrameReady : Event → Bool
  | .frameReady _ _ _ => true
  | .pulseWrite _ _ | .switchWrite _ _ | .valid => false

/-- An event is a `PulseWrite`. -/
def isPulseWrite : Event → Bool
  | .pulseWrite _ _ => true
  | .frameReady _ _ _ | .switchWrite _ _ | .valid => false

/-- An event is a `SwitchWrite`. -/
def isSwitchWrite : Event → Bool
  | .switchWrite _ _ => true
  | .frameReady _ _ _ | .pulseWrite _ _ | .valid => false

/-- The place of an event in a completion step's order (R197): `FrameReady`, then the pulses ascending in
their output, then the switches ascending in their number, then `Valid`. -/
def orderKey : Event → Nat × Nat
  | .frameReady _ _ _ => (0, 0)
  | .pulseWrite j _ => (1, j)
  | .switchWrite i _ => (2, i.val)
  | .valid => (3, 0)

/-- An event stands strictly before another in the order of R197. -/
def Before (e e' : Event) : Prop :=
  (orderKey e).1 < (orderKey e').1 ∨ ((orderKey e).1 = (orderKey e').1 ∧ (orderKey e).2 < (orderKey e').2)

end Sys2Proof.Safety
end

