-- ==== Sys2Proof/Certificates/Slice0/Obligations.lean ====
section
/-!
DEFINITION. The statements for the provers. Each docstring names the rules of spec/ the statement
formalises, and the log entry of any clause that is the model's own choice.
-/

open Sys2Proof Sys2Proof.Machine Sys2Proof.Safety

/-! ### Encoding -/

/-- R81: in each state every byte is in exactly one class. A row of the byte-class map is decoded exactly
when its state is the current one, its condition holds, its byte class admits the byte, and the byte is
its encoding. -/
def Obligations.DecodeEncodeAgree : Prop :=
  ∀ (c : Ctx) (b : Byte) (i : Instr),
    (i.classifierRow = false ∧ i.wellFormed = true ∧ i.Fits c ∧ encode i = b) ↔ decode c b = i

/-- R160, R161, R163: the same for the classifier's map of the function-code byte. -/
def Obligations.FunctionRowDecodeEncodeAgree : Prop :=
  ∀ (b : Byte) (i : Instr),
    (i.classifierRow = true ∧ i.wellFormed = true ∧ encode i = b) ↔ decodeFunction b = i

/-- R73, R74, R76, R81: a few bytes written out from the spec's encodings and the rows they are. -/
def Obligations.WrittenOutBytesDecode : Prop :=
  ∀ c : Ctx,
    (c.fsm = .gotStart → decode c 0x81#8 = .gotStartV1 0x8#4 ∧ decode c 0xF3#8 = .gotStartV3 0xF#4 ∧
      decode c 0xA8#8 = .gotStartBad 0xA8#8) ∧
    (c.fsm = .startV1 → decode c 0x20#8 = .startV1LenOk 0x20#8 ∧ decode c 0x21#8 = .startV1LenBad 0x21#8) ∧
    (c.fsm = .startV3 → decode c 0x44#8 = .startV3LenOk 0x44#8 ∧ decode c 0x45#8 = .startV3LenBad 0x45#8) ∧
    (c.fsm = .v3FuncCode → decode c 0x05#8 = .v3FuncDef 0x05#8 ∧ decode c 0x06#8 = .v3FuncUnrec 0x06#8) ∧
    decodeFunction 0x05#8 = .func05 ∧ decodeFunction 0x06#8 = .funcUnrec 0x06#8

/-! ### The step around an instruction -/

/-- R40, R81, R100: an edge that offers a byte runs the row the byte selects, on the state that has taken
the edge; nothing else happens. The row is well formed and the context selects it. -/
def Obligations.StepRunsDecodedInstruction : Prop :=
  ∀ (s : State) (b : Byte) (rest : List Edge),
    s.input = Edge.offer b :: rest →
      step s = exec (decode s.ctx b) { s with input := rest } ∧
      (decode s.ctx b).wellFormed = true ∧ (decode s.ctx b).Fits s.ctx

/-- R40, R233: an edge with `in_valid` = 0 and `rst` = 0 changes no register and emits no event, and so
does the absence of an edge. That a state with no edge offered stands still is the model's reading (log
entry 5). -/
def Obligations.IdleEdgeChangesNothing : Prop :=
  ∀ (s : State) (b : Byte) (rest : List Edge),
    (s.input = ⟨false, false, b⟩ :: rest → step s = .next { s with input := rest }) ∧
    (s.input = [] → step s = .next s)

/-- R250: a reset step, whatever `in_valid` and `in_byte` are: `state` is `Idle`, `pkt` is 0, `buf` is
unwritten, no event is emitted and the collaborators' storage is not touched; nor are the parameters
(R7). Nothing is said of the registers R250 leaves unspecified. -/
def Obligations.ResetStepEffect : Prop :=
  ∀ (s : State) (valid : Bool) (b : Byte) (rest : List Edge),
    s.input = ⟨true, valid, b⟩ :: rest →
      ∃ t, step s = .next t ∧ t.fsm = .idle ∧ t.pkt = 0 ∧ (∀ a, t.buf.readByte a = none) ∧
        t.out = s.out ∧ t.pulses = s.pulses ∧ t.switches = s.switches ∧ t.params = s.params ∧
        t.input = rest

/-- R35, R42, R251: the machine at power-on is in `Idle` with `pkt` 0, an unwritten frame buffer, the
collaborators' storage at its OPEN contents, and no event emitted. -/
def Obligations.PowerOnState : Prop :=
  State.reset.fsm = .idle ∧ State.reset.pkt = 0 ∧ (∀ a, State.reset.buf.readByte a = none) ∧
    (∀ j, j < State.reset.params.nOut → State.reset.pulses[j]? = some (Config.sinkPulse j)) ∧
    State.reset.switches = Config.sinkSw0 ∧ State.reset.out = []

/-- R251: power-on is what a reset step leaves. That the unspecified registers hold the same values in
both is the model's choice (log entries 1 and 2). -/
def Obligations.ResetStepLeavesPowerOnState : Prop :=
  ∀ (s : State) (valid : Bool) (b : Byte),
    s.params = Config.params → s.pulses = Config.sinkPulse0 → s.switches = Config.sinkSw0 → s.out = [] →
    s.input = [⟨true, valid, b⟩] → step s = .next State.reset

/-! ### Start and version (41_decoder_fsm.md section 2) -/

/-- R101: in `Idle` the start marker starts the CRC afresh and goes to `GotStart`; any other byte is
discarded. -/
def Obligations.IdleTakesTheMarkerOrDiscards : Prop :=
  ∀ (s : State) (b : Byte),
    (s.fsm = .idle → b = s.params.startMarker → Selects s b (.idleSof b)) ∧
    (s.fsm = .idle → b ≠ s.params.startMarker → Selects s b (.idleOther b)) ∧
    exec (.idleSof b) s = .next { s with crc := crcUpdate 0x0000#16 b, fsm := .gotStart } ∧
    exec (.idleOther b) s = .next { s with fsm := .idle }

/-- R102: in `GotStart` a version byte with low nibble 1 goes to `StartV1` and one with low nibble 3 to
`StartV3`, whatever the high nibble; the whole byte is folded. -/
def Obligations.VersionByteSelectsTheFormat : Prop :=
  ∀ (s : State) (hi : Nibble),
    (s.fsm = .gotStart → Selects s (hi ++ 0x1#4) (.gotStartV1 hi)) ∧
    (s.fsm = .gotStart → Selects s (hi ++ 0x3#4) (.gotStartV3 hi)) ∧
    exec (.gotStartV1 hi) s = .next { s with crc := crcUpdate s.crc (hi ++ 0x1#4), fsm := .startV1 } ∧
    exec (.gotStartV3 hi) s = .next { s with crc := crcUpdate s.crc (hi ++ 0x3#4), fsm := .startV3 }

/-- R103: in `GotStart` any other low nibble aborts, after the fold. -/
def Obligations.BadVersionNibbleAborts : Prop :=
  ∀ (s : State) (b : Byte),
    (s.fsm = .gotStart → b.toNat % 16 ≠ 1 → b.toNat % 16 ≠ 3 → Selects s b (.gotStartBad b)) ∧
    exec (.gotStartBad b) s = .next { s with crc := crcUpdate s.crc b, fsm := .idle }

/-! ### Lengths (R104, R105, R108, R109) -/

/-- R104: a V1 length byte in 2..32 is folded and gives `nch`; `idx` is 0. -/
def Obligations.LengthV1Accepted : Prop :=
  ∀ (s : State) (b : Byte), 2 ≤ b.toNat → b.toNat ≤ 32 →
    (s.fsm = .startV1 → Selects s b (.startV1LenOk b)) ∧
    ∃ n : Count7, n.toNat = b.toNat ∧
      exec (.startV1LenOk b) s = .next { s with crc := crcUpdate s.crc b, nch := n, idx := 0, fsm := .v1High }

/-- R105: any other V1 length byte aborts; nothing but `state` is written, `crc` neither. -/
def Obligations.LengthV1Rejected : Prop :=
  ∀ (s : State) (b : Byte),
    (s.fsm = .startV1 → (b.toNat ≤ 1 ∨ 33 ≤ b.toNat) → Selects s b (.startV1LenBad b)) ∧
    exec (.startV1LenBad b) s = .next { s with fsm := .idle }

/-- R108: a V3 length byte in 2..68 is folded and gives `nch` as the byte less 2; `idx` is 0. -/
def Obligations.LengthV3Accepted : Prop :=
  ∀ (s : State) (b : Byte), 2 ≤ b.toNat → b.toNat ≤ 68 →
    (s.fsm = .startV3 → Selects s b (.startV3LenOk b)) ∧
    ∃ n : Count7, n.toNat = b.toNat - 2 ∧
      exec (.startV3LenOk b) s = .next { s with crc := crcUpdate s.crc b, nch := n, idx := 0, fsm := .v3High }

/-- R109: any other V3 length byte aborts; nothing but `state` is written. -/
def Obligations.LengthV3Rejected : Prop :=
  ∀ (s : State) (b : Byte),
    (s.fsm = .startV3 → (b.toNat ≤ 1 ∨ 69 ≤ b.toNat) → Selects s b (.startV3LenBad b)) ∧
    exec (.startV3LenBad b) s = .next { s with fsm := .idle }

/-! ### Channel bytes (R106, R107, R110, R111) -/

/-- R106, R110: the high byte of a channel is folded and stored at `buf[idx][15:8]`; every other byte of
the buffer, `buf[idx][7:0]` among them, and every other register is as before. That the halves of slot `k`
are bytes `hiAddr k` and `loAddr k` of the buffer is the model's choice (log entry 4). -/
def Obligations.HighByteStored : Prop :=
  ∀ (s : State) (b : Byte), s.idx.toNat < 66 →
    (s.fsm = .v1High → Selects s b (.v1High b)) ∧ (s.fsm = .v3High → Selects s b (.v3High b)) ∧
    ∃ m : Memory,
      exec (.v1High b) s = .next { s with crc := crcUpdate s.crc b, buf := m, fsm := .v1Low } ∧
      exec (.v3High b) s = .next { s with crc := crcUpdate s.crc b, buf := m, fsm := .v3Low } ∧
      ∀ a, m.readByte a = if a = hiAddr s.idx.toNat then some b else s.buf.readByte a

/-- R107: the low byte of a V1 channel is folded and stored at `buf[idx][7:0]`, and `idx` advances; while
the new index is below `nch` the next channel follows, otherwise `variant` becomes `VAR_CH1_16` and the
CRC follows. -/
def Obligations.LowByteV1Stored : Prop :=
  ∀ (s : State) (b : Byte), s.idx.toNat < 66 →
    (s.fsm = .v1Low → s.idx.toNat + 1 < s.nch.toNat → Selects s b (.v1LowLoop b)) ∧
    (s.fsm = .v1Low → s.nch.toNat ≤ s.idx.toNat + 1 → Selects s b (.v1LowEnd b)) ∧
    ∃ (m : Memory) (n : Count7), n.toNat = s.idx.toNat + 1 ∧
      exec (.v1LowLoop b) s = .next { s with crc := crcUpdate s.crc b, buf := m, idx := n, fsm := .v1High } ∧
      exec (.v1LowEnd b) s =
        .next { s with crc := crcUpdate s.crc b, buf := m, idx := n, variant := .ch1to16, fsm := .crcHigh } ∧
      ∀ a, m.readByte a = if a = loAddr s.idx.toNat then some b else s.buf.readByte a

/-- R111: the same for V3, where `variant` is not written and the trailer follows. -/
def Obligations.LowByteV3Stored : Prop :=
  ∀ (s : State) (b : Byte), s.idx.toNat < 66 →
    (s.fsm = .v3Low → s.idx.toNat + 1 < s.nch.toNat → Selects s b (.v3LowLoop b)) ∧
    (s.fsm = .v3Low → s.nch.toNat ≤ s.idx.toNat + 1 → Selects s b (.v3LowEnd b)) ∧
    ∃ (m : Memory) (n : Count7), n.toNat = s.idx.toNat + 1 ∧
      exec (.v3LowLoop b) s = .next { s with crc := crcUpdate s.crc b, buf := m, idx := n, fsm := .v3High } ∧
      exec (.v3LowEnd b) s = .next { s with crc := crcUpdate s.crc b, buf := m, idx := n, fsm := .v3FuncCode } ∧
      ∀ a, m.readByte a = if a = loAddr s.idx.toNat then some b else s.buf.readByte a

/-- R51: the two bytes of a channel pair `h`, `l`, taken in order, leave the slot with the value
`h * 256 + l`, whichever of the four low-byte rows takes the second. -/
def Obligations.ChannelPairIsBigEndian : Prop :=
  ∀ (s : State) (h l : Byte), s.idx.toNat < 66 →
    ∃ (t v : State) (w : Word16),
      w.toNat = h.toNat * 256 + l.toNat ∧ exec (.v1High h) s = .next t ∧ exec (.v3High h) s = .next v ∧
      (∀ i ∈ [Instr.v1LowLoop l, .v1LowEnd l],
        ∃ u, exec i t = .next u ∧ readSlot u.buf s.idx.toNat = .ok w) ∧
      (∀ i ∈ [Instr.v3LowLoop l, .v3LowEnd l],
        ∃ u, exec i v = .next u ∧ readSlot u.buf s.idx.toNat = .ok w)

/-- The stores of R106, R107, R110 and R111 at an index of 66 or above stop: there is no such slot (R26,
R34). That the model stops there with a fault is its own choice (log entry 12). -/
def Obligations.StoreBeyondTheBufferStops : Prop :=
  ∀ (s : State) (b : Byte), 66 ≤ s.idx.toNat →
    ∀ i ∈ [Instr.v1High b, .v1LowLoop b, .v1LowEnd b, .v3High b, .v3LowLoop b, .v3LowEnd b],
      exec i s = .fault (.noSuchSlot s.idx.toNat)

/-! ### The V3 trailer (R112 to R115, R160, R161) -/

/-- R112, R160, R161: the function-code byte is folded and classified: codes 0 to 5 give the variant of
that code, every other code gives `VAR_UNREC`, and no code aborts. -/
def Obligations.FunctionCodeClassified : Prop :=
  ∀ (s : State) (b : Byte),
    (b.toNat ≤ 5 → (s.fsm = .v3FuncCode → Selects s b (.v3FuncDef b)) ∧
      ∃ v : Variant, v.code = b.extractLsb' 0 3 ∧
        exec (.v3FuncDef b) s =
          .next { s with crc := crcUpdate s.crc b, variant := v, fsm := .v3LastValid }) ∧
    (6 ≤ b.toNat → (s.fsm = .v3FuncCode → Selects s b (.v3FuncUnrec b)) ∧
      exec (.v3FuncUnrec b) s =
        .next { s with crc := crcUpdate s.crc b, variant := .unrec, fsm := .v3LastValid })

/-- R160, R161: the classifier's rows name the variant of each code. -/
def Obligations.ClassifierRowsSetTheVariant : Prop :=
  ∀ (s : State) (b : Byte),
    exec .func00 s = .next { s with crc := crcUpdate s.crc 0x00#8, variant := .ch1to12, fsm := .v3LastValid } ∧
    exec .func01 s =
      .next { s with crc := crcUpdate s.crc 0x01#8, variant := .ch1to8and13to16, fsm := .v3LastValid } ∧
    exec .func02 s = .next { s with crc := crcUpdate s.crc 0x02#8, variant := .ch1to16, fsm := .v3LastValid } ∧
    exec .func03 s =
      .next { s with crc := crcUpdate s.crc 0x03#8, variant := .ch1to8and17to24, fsm := .v3LastValid } ∧
    exec .func04 s =
      .next { s with crc := crcUpdate s.crc 0x04#8, variant := .ch1to8and25to32, fsm := .v3LastValid } ∧
    exec .func05 s =
      .next { s with crc := crcUpdate s.crc 0x05#8, variant := .ch1to12sw64, fsm := .v3LastValid } ∧
    exec (.funcUnrec b) s = .next { s with crc := crcUpdate s.crc b, variant := .unrec, fsm := .v3LastValid }

/-- The two descriptions of a function-code byte agree: the row of R81's map and the classifier's row do
the same (R112 calls the classifier). That both are whole steps is the model's reading (log entry 9). -/
def Obligations.MatchingRowsAgree : Prop :=
  ∀ (c : Ctx) (s : State) (b : Byte), ∀ i ∈ decodeRows c b, exec i s = exec (decode c b) s

/-- R113, R114, R115: the three trailer bytes are folded and kept nowhere. -/
def Obligations.TrailerBytesOnlyFolded : Prop :=
  ∀ (s : State) (b : Byte),
    (s.fsm = .v3LastValid → Selects s b (.v3LastValid b)) ∧
    (s.fsm = .v3ModeCmd → Selects s b (.v3ModeCmd b)) ∧
    (s.fsm = .v3SubCmd → Selects s b (.v3SubCmd b)) ∧
    exec (.v3LastValid b) s = .next { s with crc := crcUpdate s.crc b, fsm := .v3ModeCmd } ∧
    exec (.v3ModeCmd b) s = .next { s with crc := crcUpdate s.crc b, fsm := .v3SubCmd } ∧
    exec (.v3SubCmd b) s = .next { s with crc := crcUpdate s.crc b, fsm := .crcHigh }

/-! ### The CRC check and the completion (R116 to R118) -/

/-- R116: the received CRC's high byte is kept and not folded. -/
def Obligations.CrcHighByteKept : Prop :=
  ∀ (s : State) (b : Byte),
    (s.fsm = .crcHigh → Selects s b (.crcHigh b)) ∧
    exec (.crcHigh b) s = .next { s with rxhi := b, fsm := .crcLow }

/-- R118: a received CRC, high byte first (R52), that is not `crc` discards the frame: nothing but `state`
is written and nothing is emitted. -/
def Obligations.CrcMismatchDiscardsTheFrame : Prop :=
  ∀ (s : State) (b : Byte),
    (s.fsm = .crcLow → s.rxhi.toNat * 256 + b.toNat ≠ s.crc.toNat → Selects s b (.crcLowMismatch b)) ∧
    exec (.crcLowMismatch b) s = .next { s with fsm := .idle }

/-- R117: a received CRC that is `crc`, on a frame whose slots 0 to `nch`-1 hold `slots`: `pkt` advances
by one modulo 2^32, `FrameReady` is emitted and then the conversion's events, `state` is `Idle`. No other
register is written; of the rest only the collaborators' storage changes. -/
def Obligations.CrcMatchCompletesTheFrame : Prop :=
  ∀ (s : State) (b : Byte) (slots : List Word16),
    slots.length = s.nch.toNat → s.nch.toNat ≤ 66 →
    (∀ k (h : k < slots.length), s.buf.readByte (hiAddr k) = some (highByte slots[k]) ∧
      s.buf.readByte (loAddr k) = some (lowByte slots[k])) →
    (s.fsm = .crcLow → s.rxhi.toNat * 256 + b.toNat = s.crc.toNat → Selects s b (.crcLowMatch b)) ∧
    ∃ t, exec (.crcLowMatch b) s = .next t ∧
      t.pkt.toNat = (s.pkt.toNat + 1) % 2 ^ 32 ∧
      t.out = s.out ++ .frameReady s.variant s.nch slots :: convert s.params slots s.variant ∧
      t = { s with pkt := t.pkt, out := t.out, pulses := t.pulses, switches := t.switches, fsm := .idle }

/-- R80, R181, R183 to R189, R192, R193: after a completion, output `j` holds the pulse of the slot its
variant maps to it, if the frame carries that slot; every other output keeps its value. -/
def Obligations.CompletionWritesTheMappedOutputs : Prop :=
  ∀ (s t : State) (b : Byte) (slots : List Word16),
    readSlots s.buf 0 s.nch.toNat = .ok slots → s.pulses.length = s.params.nOut →
    exec (.crcLowMatch b) s = .next t →
      t.pulses.length = s.params.nOut ∧
      ∀ j, j < s.params.nOut →
        t.pulses[j]? =
          match (sourceSlot s.variant j).bind (fun k => slots[k]?) with
          | some r => some (toPulse s.params r)
          | none => s.pulses[j]?

/-- R53, R189, R190, R193, R194: a `VAR_CH1_12_SW64` frame of at least 16 channels sets all 64 switches:
switches 0 to 15 from slot 15, 16 to 31 from slot 14, 32 to 47 from slot 13, 48 to 63 from slot 12, by bit
number. Every other frame leaves all 64 as they were. -/
def Obligations.SwitchFrameSetsEverySwitch : Prop :=
  ∀ (s t : State) (b : Byte) (slots : List Word16),
    readSlots s.buf 0 s.nch.toNat = .ok slots → exec (.crcLowMatch b) s = .next t →
      if h : s.variant = .ch1to12sw64 ∧ 16 ≤ slots.length then
        ∀ (i : Nat) (hi : i < 64), t.switches[i] = (slots[15 - i / 16]'(by omega)).getLsbD (i % 16)
      else t.switches = s.switches

/-- The completion step reads only written slots of the 66: where a slot below `nch` does not exist (R26) or
has an unwritten half (R35), it stops. That the stop is a fault is the choice R35 suggests for the one and
the model's own for the other (log entries 3 and 12). -/
def Obligations.UnreadableSlotStopsTheCompletion : Prop :=
  ∀ (s : State) (b : Byte) (k : Nat),
    k < s.nch.toNat →
    (66 ≤ k ∨ s.buf.readByte (hiAddr k) = none ∨ s.buf.readByte (loAddr k) = none) →
      ∃ f, exec (.crcLowMatch b) s = .fault f

/-! ### The converter (44_converter.md) -/

/-- R183: the pulse is the exact difference between the unsigned raw value and `CENTER`, clamped. -/
def Obligations.PulseIsTheClampedDifference : Prop :=
  ∀ (p : Params) (r : Word16),
    (toPulse p r).toInt =
      if (r.toNat : Int) - p.center.toNat < p.pulseMin.toInt then p.pulseMin.toInt
      else if p.pulseMax.toInt < (r.toNat : Int) - p.center.toNat then p.pulseMax.toInt
      else (r.toNat : Int) - p.center.toNat

/-- R197: the events of a completion step are in the order FrameReady, pulses ascending, switches
ascending, Valid. -/
def Obligations.CompletionEventsInOrder : Prop :=
  ∀ (p : Params) (slots : List Word16) (v : Variant) (n : Count7),
    (Event.frameReady v n slots :: convert p slots v).Pairwise Before

/-- R198: how many pulse and switch writes a conversion emits, by variant, channel count and capacity. -/
def Obligations.ConversionWriteCounts : Prop :=
  ∀ (p : Params) (slots : List Word16) (v : Variant),
    ((convert p slots v).filter isPulseWrite).length = pulseCount v slots.length p.nOut ∧
    ((convert p slots v).filter isSwitchWrite).length = switchCount v slots.length ∧
    (convert p slots v).count .valid = if v = .unrec then 0 else 1

/-- R196, R191: `Valid` is the last event of every conversion of a named variant and stands nowhere else;
`VAR_UNREC` converts to no event at all. -/
def Obligations.ValidEndsEveryNamedConversion : Prop :=
  ∀ (p : Params) (slots : List Word16) (v : Variant),
    (v ≠ .unrec → ∃ es, convert p slots v = es ++ [.valid] ∧ Event.valid ∉ es) ∧
    (v = .unrec → convert p slots v = [])

/-- R263: a step emits at most 78 events. -/
def Obligations.AtMost78EventsPerStep : Prop :=
  ∀ s t : State, step s = .next t → t.out.length ≤ s.out.length + 78

/-! ### The CRC (42_crc.md) -/

/-- R143: the byte-parallel form equals the bit-serial one for every accumulator and byte. -/
def Obligations.ByteParallelCrcAgrees : Prop :=
  ∀ (c : Word16) (b : Byte), crcUpdateParallel c b = crcUpdate c b

/-- R145: the CRC of a sequence followed by its own CRC, high byte first, is zero. -/
def Obligations.CrcResidueIsZero : Prop :=
  ∀ s : List Byte, crc16 (s ++ [highByte (crc16 s), lowByte (crc16 s)]) = 0x0000#16

/-- R146, R140: changing one covered byte, by any bits at all, changes the CRC (the update is a bijection
in the byte and in the accumulator). -/
def Obligations.CrcDetectsAChangedByte : Prop :=
  ∀ (before after : List Byte) (b b' : Byte), b ≠ b' →
    crc16 (before ++ b :: after) ≠ crc16 (before ++ b' :: after)

/-! ### The whole machine -/

/-- R119: the next-state table, for every state and byte. -/
def Obligations.NextStateTable : Prop :=
  ∀ (s t : State) (b : Byte) (rest : List Edge),
    s.input = Edge.offer b :: rest → step s = .next t → t.fsm = nextFsm s.ctx b ∧ t.input = rest

/-- R120: which rules fold the byte into `crc`, and from which value. -/
def Obligations.FoldSummary : Prop :=
  ∀ (s t : State) (b : Byte) (rest : List Edge),
    s.input = Edge.offer b :: rest → step s = .next t → t.crc = nextCrc s.ctx b

/-- R29, R100, R117, R252: a step that is not a reset appends its events, emits events only in `CrcLow`,
and adds to `pkt` the number of `FrameReady` events it emits; a reset step clears `pkt` and emits none. -/
def Obligations.PacketCounterCountsFrames : Prop :=
  ∀ s t : State, step s = .next t →
    ∃ es, t.out = s.out ++ es ∧ (s.fsm ≠ .crcLow → es = []) ∧
      if (s.input.head?.map Edge.rst) = some true then es = [] ∧ t.pkt = 0
      else t.pkt = s.pkt + BitVec.ofNat 32 (es.filter isFrameReady).length

/-- R7, R31: no step changes a parameter. -/
def Obligations.ParametersNeverChange : Prop :=
  ∀ s t : State, step s = .next t → t.params = s.params

/-- R42, R100, R193: only a completion step writes the collaborators' storage or emits an event; every other
step, a CRC mismatch, a reset edge and an idle edge in `CrcLow` among them, leaves both as they were. -/
def Obligations.OnlyCompletionsWriteOutputs : Prop :=
  ∀ s t : State, step s = .next t → ¬ Completes s →
    t.pulses = s.pulses ∧ t.switches = s.switches ∧ t.out = s.out

/-- The frame buffer keeps its canonical form, so no step writes a slot at index 66 or above (R26, R34,
R261). The form itself is the model's (log entry 4). -/
def Obligations.EveryStepKeepsTheBufferCanonical : Prop :=
  ∀ s t : State, s.buf.wf = true → step s = .next t → t.buf.wf = true

/-- `BlockInv` holds at power-on. -/
def Obligations.InvariantAtReset : Prop := BlockInv State.reset

/-- R34, its rows on `nch`, `idx` and written slots, with the canonical form of the frame buffer (the
model's, log entry 4), `N_OUT` pulse outputs (R42) and legal parameters (R6): every step keeps `BlockInv`.
R34's rows on `crc`, on `variant` and "in this frame" are `EveryStepKeepsTheFrameSoFar`. -/
def Obligations.EveryStepKeepsTheInvariant : Prop :=
  ∀ s t : State, BlockInv s → step s = .next t → BlockInv t

/-- No frame is in progress at power-on (R251). -/
def Obligations.NoFrameAtReset : Prop := FrameSoFar State.reset []

/-- R34, every row: if `fr` is the bytes of the frame in progress, then after any step `frameAfter s fr` is.
So `crc` is the CRC of the bytes so far, `nch` and `idx` stand in their ranges, every slot below `idx` holds
the bytes this frame brought, and `variant` is `VAR_CH1_16` when a V1 frame reaches its CRC and the variant
of this frame's function code when a V3 frame does. -/
def Obligations.EveryStepKeepsTheFrameSoFar : Prop :=
  ∀ (s t : State) (fr : List Byte), FrameSoFar s fr → step s = .next t → FrameSoFar t (frameAfter s fr)

/-- R5, R35, R220: in every state that meets `BlockInv`, every step has a next state: no byte sequence
faults, and no unwritten slot is read. -/
def Obligations.EveryStepCompletesUnderTheInvariant : Prop :=
  ∀ s : State, BlockInv s → ∃ t, step s = .next t

/-- R124: from every state of `BlockInv`, whatever the bytes, the FSM is in `Idle` within 140 byte
steps. -/
def Obligations.BackInIdleWithin140Bytes : Prop :=
  ∀ (s : State) (bs : List Byte) (rest : List Edge),
    BlockInv s → s.input = offers bs ++ rest → bs.length = 140 →
      ∃ k t, k ≤ 140 ∧ runSteps k s = .next t ∧ t.fsm = .idle

/-- R30, R33, R35: two states that agree on the outputs so far and on the live part of the frame cannot be
told apart by a step: stale slots, half-written slots and registers that reset leaves unspecified reach
no output. -/
def Obligations.DeadStateReachesNoOutput : Prop :=
  ∀ s t s' : State, Indistinguishable s t → step s = .next s' →
    ∃ t', step t = .next t' ∧ Indistinguishable s' t'

/-- R35: whatever values the unspecified registers hold after reset, every run gives the same counter,
the same collaborator storage and the same events. This is what makes the model's own choice of those
values (log entry 1) harmless. -/
def Obligations.ResetValuesAreUnobservable : Prop :=
  ∀ (s : State) (crc : Word16) (nch idx : Count7) (m : Memory) (v : Variant) (rxhi : Byte) (n : Nat) (s' : State),
    s.fsm = .idle → runSteps n s = .next s' →
      ∃ t', runSteps n { s with crc := crc, nch := nch, idx := idx, buf := m, variant := v, rxhi := rxhi } =
          .next t' ∧ SameOutputs s' t' ∧ s'.fsm = t'.fsm

/-- R71, R79, R104 to R107, R116 to R118, R142, R162: from `Idle`, the bytes of a V1 frame of 2 to 32
channels followed by any two bytes are accepted exactly when those two bytes are the CRC of the frame's
bytes, high byte first: then one `FrameReady` with the channel values in reception order and the
conversion; otherwise no event, and in both cases `Idle`. -/
def Obligations.FrameV1DecidedByItsCrc : Prop :=
  ∀ (s : State) (hi : Nibble) (vs : List Word16) (h l : Byte) (rest : List Edge),
    s.fsm = .idle → 2 ≤ vs.length → vs.length ≤ 32 →
    s.input = offers (coveredV1 s.params.startMarker hi vs ++ [h, l]) ++ rest →
      ∃ t, runSteps (5 + 2 * vs.length) s = .next t ∧ t.fsm = .idle ∧ t.input = rest ∧
        if h.toNat * 256 + l.toNat = (crc16 (coveredV1 s.params.startMarker hi vs)).toNat then
          t.pkt = s.pkt + 1 ∧
          t.out = s.out ++
            .frameReady .ch1to16 (BitVec.ofNat 7 vs.length) vs :: convert s.params vs .ch1to16
        else SameOutputs t s

/-- R72, R79, R108 to R118, R123, R142, R160, R161: the same for a V3 frame of 0 to 66 channels, which
carries at least one pair: the slots signalled are the first `nch` of the pairs, the variant is the
function code's, and the other three trailer bytes select nothing. -/
def Obligations.FrameV3DecidedByItsCrc : Prop :=
  ∀ (s : State) (hi : Nibble) (nch : Nat) (pairs : List Word16) (f x y z h l : Byte) (rest : List Edge),
    s.fsm = .idle → nch ≤ 66 → pairs.length = max nch 1 →
    s.input = offers (coveredV3 s.params.startMarker hi nch pairs f x y z ++ [h, l]) ++ rest →
      ∃ t, runSteps (9 + 2 * max nch 1) s = .next t ∧ t.fsm = .idle ∧ t.input = rest ∧
        if h.toNat * 256 + l.toNat = (crc16 (coveredV3 s.params.startMarker hi nch pairs f x y z)).toNat then
          t.pkt = s.pkt + 1 ∧
          t.out = s.out ++ .frameReady (classify f) (BitVec.ofNat 7 nch) (pairs.take nch) ::
            convert s.params (pairs.take nch) (classify f)
        else SameOutputs t s

/-- The table words the host asks about run as the instruction `decodeTableWord` reads (R81, R86). In which
state a byte on its own is read is the model's choice (log entry 11). -/
def Obligations.TableWordRunsItsRow : Prop :=
  ∀ (s : State) (w : Nat) (i : Instr),
    s.params.startMarker = Config.params.startMarker → decodeTableWord 8 w = some i →
      step (s.withFetchWord 8 w) = exec i { s with fsm := i.fsm }
end

