-- ==== Sys2Proof/Laws/Converter.lean ====
section
/-!
SUPPORT. What the converter's pieces emit.
-/

namespace Sys2Proof.Machine

theorem put_eq (p : Params) (slots : List Word16) (j k : Nat) :
    put p slots j k =
      if h : k < slots.length then
        if j < p.nOut then [.pulseWrite j (toPulse p slots[k])] else []
      else [] := by
  unfold put
  by_cases h : k < slots.length <;> simp [h]

theorem putRange_zero (p : Params) (slots : List Word16) (lo off : Nat) :
    putRange p slots lo 0 off = [] := by
  simp [putRange]

theorem putRange_succ (p : Params) (slots : List Word16) (lo n off : Nat) :
    putRange p slots lo (n + 1) off = put p slots (lo + off) lo ++ putRange p slots (lo + 1) n off := by
  simp [putRange, List.range'_succ]

/-- The events of a range of copies, exactly. -/
theorem mem_putRange {p : Params} {slots : List Word16} {lo n off : Nat} {e : Event} :
    e ∈ putRange p slots lo n off ↔
      ∃ k, lo ≤ k ∧ k < lo + n ∧
        ∃ h : k < slots.length, k + off < p.nOut ∧ e = .pulseWrite (k + off) (toPulse p slots[k]) := by
  simp only [putRange, List.mem_flatMap, List.mem_range'_1, put_eq]
  constructor
  · rintro ⟨k, ⟨h1, h2⟩, h⟩
    split at h
    · split at h
      · simp at h
        exact ⟨k, h1, h2, ‹_›, ‹_›, h⟩
      · simp at h
    · simp at h
  · rintro ⟨k, h1, h2, h3, h4, rfl⟩
    exact ⟨k, ⟨h1, h2⟩, by simp [h3, h4]⟩

theorem bitmap_of_ge {slots : List Word16} (h : 16 ≤ slots.length) :
    bitmap slots = some (slots[12] ++ slots[13] ++ slots[14] ++ slots[15]) := by
  unfold bitmap
  rw [List.getElem?_eq_getElem (by omega), List.getElem?_eq_getElem (by omega),
    List.getElem?_eq_getElem (by omega), List.getElem?_eq_getElem (by omega)]

theorem bitmap_of_lt {slots : List Word16} (h : slots.length < 16) : bitmap slots = none := by
  unfold bitmap
  rw [List.getElem?_eq_none (i := 15) (by omega)]
  split <;> simp_all

theorem mem_unpackSwitches {slots : List Word16} {e : Event} (h : e ∈ unpackSwitches slots) :
    ∃ i on, e = .switchWrite i on := by
  unfold unpackSwitches at h
  split at h
  · obtain ⟨i, -, rfl⟩ := List.mem_map.mp h
    exact ⟨_, _, rfl⟩
  · simp at h

end Sys2Proof.Machine
end

