-- ==== Sys2Proof/Laws/Memory.lean ====
section
/-!
SUPPORT. The laws of the frame buffer: reading after writing, the canonical form, and what each slot
operation answers.
-/

namespace Sys2Proof.Machine

/-! ### Bytes -/

theorem Memory.readByte_writeByte_same (m : Memory) (a : Nat) (b : Byte) :
    (m.writeByte a b).readByte a = some b := by
  induction m with
  | nil => simp [Memory.writeByte, Memory.readByte]
  | cons c m ih =>
    obtain ⟨x, v⟩ := c
    unfold Memory.writeByte
    split
    · simp [Memory.readByte]
    · split
      · simp [Memory.readByte]
      · simp [Memory.readByte, *]

theorem Memory.readByte_writeByte_other (m : Memory) {a x : Nat} (b : Byte) (h : x ≠ a) :
    (m.writeByte a b).readByte x = m.readByte x := by
  induction m with
  | nil => simp [Memory.writeByte, Memory.readByte, h]
  | cons c m ih =>
    obtain ⟨y, v⟩ := c
    unfold Memory.writeByte
    split
    · simp [Memory.readByte, h]
    · split
      · rename_i hay
        subst hay
        simp [Memory.readByte, h]
      · simp [Memory.readByte, ih]

/-- Reading after a write: the written byte there, the old contents everywhere else. -/
theorem Memory.readByte_writeByte (m : Memory) (a x : Nat) (b : Byte) :
    (m.writeByte a b).readByte x = if x = a then some b else m.readByte x := by
  split
  · rename_i h; subst h; exact m.readByte_writeByte_same x b
  · rename_i h; exact m.readByte_writeByte_other b h

/-! ### The canonical form -/

theorem Memory.risingFrom_writeByte (m : Memory) (lo a : Nat) (b : Byte) (hlo : lo ≤ a)
    (h : m.risingFrom lo = true) : (m.writeByte a b).risingFrom lo = true := by
  induction m generalizing lo with
  | nil => simpa [Memory.writeByte, Memory.risingFrom] using hlo
  | cons c m ih =>
    obtain ⟨x, v⟩ := c
    simp only [Memory.risingFrom, Bool.and_eq_true, decide_eq_true_eq] at h
    unfold Memory.writeByte
    split
    · rename_i hax
      simp only [Memory.risingFrom, Bool.and_eq_true, decide_eq_true_eq]
      exact ⟨hlo, hax, h.2⟩
    · split
      · rename_i hax
        subst hax
        simp only [Memory.risingFrom, Bool.and_eq_true, decide_eq_true_eq]
        exact ⟨hlo, h.2⟩
      · simp only [Memory.risingFrom, Bool.and_eq_true, decide_eq_true_eq]
        exact ⟨h.1, ih (x + 1) (by omega) h.2⟩

theorem Memory.all_writeByte (m : Memory) (p : Host.Cell → Bool) (a : Nat) (b : Byte)
    (hp : p (a, b) = true) (h : m.all p = true) : (m.writeByte a b).all p = true := by
  induction m with
  | nil => simpa [Memory.writeByte] using hp
  | cons c m ih =>
    obtain ⟨x, v⟩ := c
    simp only [List.all_cons, Bool.and_eq_true] at h
    unfold Memory.writeByte
    split
    · simp only [List.all_cons, Bool.and_eq_true]
      exact ⟨hp, h⟩
    · split
      · simp only [List.all_cons, Bool.and_eq_true]
        exact ⟨hp, h.2⟩
      · simp only [List.all_cons, Bool.and_eq_true]
        exact ⟨h.1, ih h.2⟩

/-- A write inside the 66 slots keeps the canonical form. -/
theorem Memory.wf_writeByte (m : Memory) (a : Nat) (b : Byte) (ha : a < 2 * Config.bufCap)
    (h : m.wf = true) : (m.writeByte a b).wf = true := by
  simp only [Memory.wf, Bool.and_eq_true] at h ⊢
  exact ⟨m.risingFrom_writeByte 0 a b (Nat.zero_le a) h.1,
    m.all_writeByte _ a b (decide_eq_true ha) h.2⟩

theorem Memory.wf_reset : State.reset.buf.wf = true := rfl

/-! ### Slots: everything each operation can answer -/

theorem bufWriteHi_of_lt (m : Memory) {k : Nat} (b : Byte) (h : k < Config.bufCap) :
    bufWriteHi m k b = .ok (m.writeByte (hiAddr k) b) := by simp [bufWriteHi, h]

theorem bufWriteLo_of_lt (m : Memory) {k : Nat} (b : Byte) (h : k < Config.bufCap) :
    bufWriteLo m k b = .ok (m.writeByte (loAddr k) b) := by simp [bufWriteLo, h]

theorem bufWriteHi_of_ge (m : Memory) {k : Nat} (b : Byte) (h : ¬ k < Config.bufCap) :
    bufWriteHi m k b = .error (.noSuchSlot k) := by simp [bufWriteHi, h]

theorem bufWriteLo_of_ge (m : Memory) {k : Nat} (b : Byte) (h : ¬ k < Config.bufCap) :
    bufWriteLo m k b = .error (.noSuchSlot k) := by simp [bufWriteLo, h]

theorem bufWriteHi_eq_ok {m m' : Memory} {k : Nat} {b : Byte} (h : bufWriteHi m k b = .ok m') :
    k < Config.bufCap ∧ m' = m.writeByte (hiAddr k) b := by
  unfold bufWriteHi at h
  split at h
  · exact ⟨‹_›, (Except.ok.inj h).symm⟩
  · cases h

theorem bufWriteLo_eq_ok {m m' : Memory} {k : Nat} {b : Byte} (h : bufWriteLo m k b = .ok m') :
    k < Config.bufCap ∧ m' = m.writeByte (loAddr k) b := by
  unfold bufWriteLo at h
  split at h
  · exact ⟨‹_›, (Except.ok.inj h).symm⟩
  · cases h

/-- `BufWriteHi` keeps the canonical form. -/
theorem bufWriteHi_wf {m m' : Memory} {k : Nat} {b : Byte} (h : bufWriteHi m k b = .ok m')
    (hm : m.wf = true) : m'.wf = true := by
  obtain ⟨hk, rfl⟩ := bufWriteHi_eq_ok h
  exact m.wf_writeByte _ b (by simp only [hiAddr, Config.bufCap] at *; omega) hm

/-- `BufWriteLo` keeps the canonical form. -/
theorem bufWriteLo_wf {m m' : Memory} {k : Nat} {b : Byte} (h : bufWriteLo m k b = .ok m')
    (hm : m.wf = true) : m'.wf = true := by
  obtain ⟨hk, rfl⟩ := bufWriteLo_eq_ok h
  exact m.wf_writeByte _ b (by simp only [loAddr, Config.bufCap] at *; omega) hm

/-- A slot reads as `v` exactly when it is one of the 66 and both its halves are written. -/
theorem readSlot_eq_ok {m : Memory} {k : Nat} {v : Word16} :
    readSlot m k = .ok v ↔
      k < Config.bufCap ∧ ∃ hi lo, m.readByte (hiAddr k) = some hi ∧ m.readByte (loAddr k) = some lo ∧
        v = joinBytes hi lo := by
  unfold readSlot
  split
  · rename_i hk
    cases hhi : m.readByte (hiAddr k) <;> cases hlo : m.readByte (loAddr k) <;> simp [hk, eq_comm]
  · rename_i hk
    simp [hk]

theorem readSlots_zero (m : Memory) (k : Nat) : readSlots m k 0 = .ok [] := rfl

theorem readSlots_succ_eq_ok {m : Memory} {k n : Nat} {vs : List Word16} :
    readSlots m k (n + 1) = .ok vs ↔
      ∃ w ws, readSlot m k = .ok w ∧ readSlots m (k + 1) n = .ok ws ∧ vs = w :: ws := by
  simp only [readSlots]
  cases readSlot m k with
  | error f => simp
  | ok w =>
    cases readSlots m (k + 1) n with
    | error f => simp
    | ok ws => simp [eq_comm]

/-- Slots `k` to `k+n-1` read as `vs` exactly when `vs` has `n` entries and each slot reads as its
entry. -/
theorem readSlots_eq_ok {m : Memory} {k n : Nat} {vs : List Word16} :
    readSlots m k n = .ok vs ↔
      vs.length = n ∧ ∀ i (h : i < vs.length), readSlot m (k + i) = .ok vs[i] := by
  induction n generalizing k vs with
  | zero =>
    cases vs with
    | nil => simp [readSlots_zero]
    | cons w ws => simp [readSlots_zero]
  | succ n ih =>
    rw [readSlots_succ_eq_ok]
    constructor
    · rintro ⟨w, ws, hw, hws, rfl⟩
      obtain ⟨hlen, hall⟩ := ih.mp hws
      refine ⟨by simp [hlen], fun i h => ?_⟩
      cases i with
      | zero => simpa using hw
      | succ i =>
        have := hall i (by simpa using h)
        simpa [Nat.add_assoc, Nat.add_comm 1 i] using this
    · rintro ⟨hlen, hall⟩
      cases vs with
      | nil => simp at hlen
      | cons w ws =>
        refine ⟨w, ws, hall 0 (Nat.succ_pos _), ih.mpr ⟨by simpa using hlen, fun i h => ?_⟩, rfl⟩
        have := hall (i + 1) (by simpa using h)
        simpa [Nat.add_assoc, Nat.add_comm 1 i] using this

/-- Slots whose bytes agree read alike. -/
theorem readSlots_congr {m m' : Memory} {k n : Nat}
    (h : ∀ a, a < 2 * (k + n) → m.readByte a = m'.readByte a) : readSlots m k n = readSlots m' k n := by
  induction n generalizing k with
  | zero => rfl
  | succ n ih =>
    have hslot : readSlot m k = readSlot m' k := by
      unfold readSlot
      rw [h (hiAddr k) (by simp only [hiAddr]; omega), h (loAddr k) (by simp only [loAddr]; omega)]
    have hrest : readSlots m (k + 1) n = readSlots m' (k + 1) n :=
      ih fun a ha => h a (by omega)
    simp only [readSlots, hslot, hrest]

end Sys2Proof.Machine
end

