-- ==== Sys2Proof/Laws/Operands.lean ====
section
/-!
SUPPORT. The laws of the field readers and of the two conditions, in numbers.
-/

namespace Sys2Proof.Machine

theorem versionNibble_toNat (b : Byte) : (versionNibble b).toNat = b.toNat % 16 := by
  simp [versionNibble]

theorem versionNibble_eq_verV1 (b : Byte) : versionNibble b = Config.verV1 ↔ b.toNat % 16 = 1 := by
  rw [← versionNibble_toNat, ← BitVec.toNat_inj]; simp [Config.verV1]

theorem versionNibble_eq_verV3 (b : Byte) : versionNibble b = Config.verV3 ↔ b.toNat % 16 = 3 := by
  rw [← versionNibble_toNat, ← BitVec.toNat_inj]; simp [Config.verV3]

theorem highNibble_versionByte (hi v : Nibble) : highNibble (versionByte hi v) = hi := by
  revert hi v; decide

theorem versionNibble_versionByte (hi v : Nibble) : versionNibble (versionByte hi v) = v := by
  revert hi v; decide

theorem versionByte_nibbles (b : Byte) : versionByte (highNibble b) (versionNibble b) = b := by
  revert b; decide

theorem verV3_ne_verV1 : Config.verV3 ≠ Config.verV1 := by decide

theorem joinBytes_toNat (h l : Byte) : (joinBytes h l).toNat = h.toNat * 256 + l.toNat := by
  have := l.isLt
  simp only [joinBytes, BitVec.toNat_append]
  rw [← Nat.shiftLeft_add_eq_or_of_lt this, Nat.shiftLeft_eq]

theorem lenOkV1_iff (b : Byte) : lenOkV1 b = true ↔ 2 ≤ b.toNat ∧ b.toNat ≤ 32 := decide_eq_true_iff

theorem lenOkV3_iff (b : Byte) : lenOkV3 b = true ↔ 2 ≤ b.toNat ∧ b.toNat ≤ 68 := decide_eq_true_iff

theorem functionDefined_iff (b : Byte) : functionDefined b = true ↔ b.toNat ≤ 5 := decide_eq_true_iff

theorem morePairs_iff (idx nch : Count7) : morePairs idx nch = true ↔ idx.toNat + 1 < nch.toNat :=
  decide_eq_true_iff

theorem crcEqual_iff (crc : Word16) (rxhi b : Byte) : crcEqual crc rxhi b = true ↔ joinBytes rxhi b = crc :=
  decide_eq_true_iff

theorem classify_of_undefined : ∀ b : Byte, ¬ functionDefined b = true → classify b = .unrec := by
  decide

end Sys2Proof.Machine
end

