-- ==== Sys2Proof/Laws/State.lean ====
section
/-!
SUPPORT. What each named update of the state leaves in each field: one lemma per field per update.
-/

namespace Sys2Proof.Machine

/-! ### `State.goto` -/

@[simp] theorem State.goto_params (s : State) (st : FsmState) :
    (s.goto st).params = s.params := rfl

@[simp] theorem State.goto_fsm (s : State) (st : FsmState) :
    (s.goto st).fsm = st := rfl

@[simp] theorem State.goto_crc (s : State) (st : FsmState) :
    (s.goto st).crc = s.crc := rfl

@[simp] theorem State.goto_nch (s : State) (st : FsmState) :
    (s.goto st).nch = s.nch := rfl

@[simp] theorem State.goto_idx (s : State) (st : FsmState) :
    (s.goto st).idx = s.idx := rfl

@[simp] theorem State.goto_buf (s : State) (st : FsmState) :
    (s.goto st).buf = s.buf := rfl

@[simp] theorem State.goto_variant (s : State) (st : FsmState) :
    (s.goto st).variant = s.variant := rfl

@[simp] theorem State.goto_rxhi (s : State) (st : FsmState) :
    (s.goto st).rxhi = s.rxhi := rfl

@[simp] theorem State.goto_pkt (s : State) (st : FsmState) :
    (s.goto st).pkt = s.pkt := rfl

@[simp] theorem State.goto_pulses (s : State) (st : FsmState) :
    (s.goto st).pulses = s.pulses := rfl

@[simp] theorem State.goto_switches (s : State) (st : FsmState) :
    (s.goto st).switches = s.switches := rfl

@[simp] theorem State.goto_input (s : State) (st : FsmState) :
    (s.goto st).input = s.input := rfl

@[simp] theorem State.goto_out (s : State) (st : FsmState) :
    (s.goto st).out = s.out := rfl

/-! ### `State.setCrc` -/

@[simp] theorem State.setCrc_params (s : State) (c : Word16) :
    (s.setCrc c).params = s.params := rfl

@[simp] theorem State.setCrc_fsm (s : State) (c : Word16) :
    (s.setCrc c).fsm = s.fsm := rfl

@[simp] theorem State.setCrc_crc (s : State) (c : Word16) :
    (s.setCrc c).crc = c := rfl

@[simp] theorem State.setCrc_nch (s : State) (c : Word16) :
    (s.setCrc c).nch = s.nch := rfl

@[simp] theorem State.setCrc_idx (s : State) (c : Word16) :
    (s.setCrc c).idx = s.idx := rfl

@[simp] theorem State.setCrc_buf (s : State) (c : Word16) :
    (s.setCrc c).buf = s.buf := rfl

@[simp] theorem State.setCrc_variant (s : State) (c : Word16) :
    (s.setCrc c).variant = s.variant := rfl

@[simp] theorem State.setCrc_rxhi (s : State) (c : Word16) :
    (s.setCrc c).rxhi = s.rxhi := rfl

@[simp] theorem State.setCrc_pkt (s : State) (c : Word16) :
    (s.setCrc c).pkt = s.pkt := rfl

@[simp] theorem State.setCrc_pulses (s : State) (c : Word16) :
    (s.setCrc c).pulses = s.pulses := rfl

@[simp] theorem State.setCrc_switches (s : State) (c : Word16) :
    (s.setCrc c).switches = s.switches := rfl

@[simp] theorem State.setCrc_input (s : State) (c : Word16) :
    (s.setCrc c).input = s.input := rfl

@[simp] theorem State.setCrc_out (s : State) (c : Word16) :
    (s.setCrc c).out = s.out := rfl

/-! ### `State.fold` -/

@[simp] theorem State.fold_params (s : State) (b : Byte) :
    (s.fold b).params = s.params := rfl

@[simp] theorem State.fold_fsm (s : State) (b : Byte) :
    (s.fold b).fsm = s.fsm := rfl

@[simp] theorem State.fold_crc (s : State) (b : Byte) :
    (s.fold b).crc = crcUpdate s.crc b := rfl

@[simp] theorem State.fold_nch (s : State) (b : Byte) :
    (s.fold b).nch = s.nch := rfl

@[simp] theorem State.fold_idx (s : State) (b : Byte) :
    (s.fold b).idx = s.idx := rfl

@[simp] theorem State.fold_buf (s : State) (b : Byte) :
    (s.fold b).buf = s.buf := rfl

@[simp] theorem State.fold_variant (s : State) (b : Byte) :
    (s.fold b).variant = s.variant := rfl

@[simp] theorem State.fold_rxhi (s : State) (b : Byte) :
    (s.fold b).rxhi = s.rxhi := rfl

@[simp] theorem State.fold_pkt (s : State) (b : Byte) :
    (s.fold b).pkt = s.pkt := rfl

@[simp] theorem State.fold_pulses (s : State) (b : Byte) :
    (s.fold b).pulses = s.pulses := rfl

@[simp] theorem State.fold_switches (s : State) (b : Byte) :
    (s.fold b).switches = s.switches := rfl

@[simp] theorem State.fold_input (s : State) (b : Byte) :
    (s.fold b).input = s.input := rfl

@[simp] theorem State.fold_out (s : State) (b : Byte) :
    (s.fold b).out = s.out := rfl

/-! ### `State.beginChannels` -/

@[simp] theorem State.beginChannels_params (s : State) (n : Count7) :
    (s.beginChannels n).params = s.params := rfl

@[simp] theorem State.beginChannels_fsm (s : State) (n : Count7) :
    (s.beginChannels n).fsm = s.fsm := rfl

@[simp] theorem State.beginChannels_crc (s : State) (n : Count7) :
    (s.beginChannels n).crc = s.crc := rfl

@[simp] theorem State.beginChannels_nch (s : State) (n : Count7) :
    (s.beginChannels n).nch = n := rfl

@[simp] theorem State.beginChannels_idx (s : State) (n : Count7) :
    (s.beginChannels n).idx = 0 := rfl

@[simp] theorem State.beginChannels_buf (s : State) (n : Count7) :
    (s.beginChannels n).buf = s.buf := rfl

@[simp] theorem State.beginChannels_variant (s : State) (n : Count7) :
    (s.beginChannels n).variant = s.variant := rfl

@[simp] theorem State.beginChannels_rxhi (s : State) (n : Count7) :
    (s.beginChannels n).rxhi = s.rxhi := rfl

@[simp] theorem State.beginChannels_pkt (s : State) (n : Count7) :
    (s.beginChannels n).pkt = s.pkt := rfl

@[simp] theorem State.beginChannels_pulses (s : State) (n : Count7) :
    (s.beginChannels n).pulses = s.pulses := rfl

@[simp] theorem State.beginChannels_switches (s : State) (n : Count7) :
    (s.beginChannels n).switches = s.switches := rfl

@[simp] theorem State.beginChannels_input (s : State) (n : Count7) :
    (s.beginChannels n).input = s.input := rfl

@[simp] theorem State.beginChannels_out (s : State) (n : Count7) :
    (s.beginChannels n).out = s.out := rfl

/-! ### `State.nextSlot` -/

@[simp] theorem State.nextSlot_params (s : State) :
    (s.nextSlot).params = s.params := rfl

@[simp] theorem State.nextSlot_fsm (s : State) :
    (s.nextSlot).fsm = s.fsm := rfl

@[simp] theorem State.nextSlot_crc (s : State) :
    (s.nextSlot).crc = s.crc := rfl

@[simp] theorem State.nextSlot_nch (s : State) :
    (s.nextSlot).nch = s.nch := rfl

@[simp] theorem State.nextSlot_idx (s : State) :
    (s.nextSlot).idx = s.idx + 1 := rfl

@[simp] theorem State.nextSlot_buf (s : State) :
    (s.nextSlot).buf = s.buf := rfl

@[simp] theorem State.nextSlot_variant (s : State) :
    (s.nextSlot).variant = s.variant := rfl

@[simp] theorem State.nextSlot_rxhi (s : State) :
    (s.nextSlot).rxhi = s.rxhi := rfl

@[simp] theorem State.nextSlot_pkt (s : State) :
    (s.nextSlot).pkt = s.pkt := rfl

@[simp] theorem State.nextSlot_pulses (s : State) :
    (s.nextSlot).pulses = s.pulses := rfl

@[simp] theorem State.nextSlot_switches (s : State) :
    (s.nextSlot).switches = s.switches := rfl

@[simp] theorem State.nextSlot_input (s : State) :
    (s.nextSlot).input = s.input := rfl

@[simp] theorem State.nextSlot_out (s : State) :
    (s.nextSlot).out = s.out := rfl

/-! ### `State.setBuf` -/

@[simp] theorem State.setBuf_params (s : State) (m : Memory) :
    (s.setBuf m).params = s.params := rfl

@[simp] theorem State.setBuf_fsm (s : State) (m : Memory) :
    (s.setBuf m).fsm = s.fsm := rfl

@[simp] theorem State.setBuf_crc (s : State) (m : Memory) :
    (s.setBuf m).crc = s.crc := rfl

@[simp] theorem State.setBuf_nch (s : State) (m : Memory) :
    (s.setBuf m).nch = s.nch := rfl

@[simp] theorem State.setBuf_idx (s : State) (m : Memory) :
    (s.setBuf m).idx = s.idx := rfl

@[simp] theorem State.setBuf_buf (s : State) (m : Memory) :
    (s.setBuf m).buf = m := rfl

@[simp] theorem State.setBuf_variant (s : State) (m : Memory) :
    (s.setBuf m).variant = s.variant := rfl

@[simp] theorem State.setBuf_rxhi (s : State) (m : Memory) :
    (s.setBuf m).rxhi = s.rxhi := rfl

@[simp] theorem State.setBuf_pkt (s : State) (m : Memory) :
    (s.setBuf m).pkt = s.pkt := rfl

@[simp] theorem State.setBuf_pulses (s : State) (m : Memory) :
    (s.setBuf m).pulses = s.pulses := rfl

@[simp] theorem State.setBuf_switches (s : State) (m : Memory) :
    (s.setBuf m).switches = s.switches := rfl

@[simp] theorem State.setBuf_input (s : State) (m : Memory) :
    (s.setBuf m).input = s.input := rfl

@[simp] theorem State.setBuf_out (s : State) (m : Memory) :
    (s.setBuf m).out = s.out := rfl

/-! ### `State.setVariant` -/

@[simp] theorem State.setVariant_params (s : State) (v : Variant) :
    (s.setVariant v).params = s.params := rfl

@[simp] theorem State.setVariant_fsm (s : State) (v : Variant) :
    (s.setVariant v).fsm = s.fsm := rfl

@[simp] theorem State.setVariant_crc (s : State) (v : Variant) :
    (s.setVariant v).crc = s.crc := rfl

@[simp] theorem State.setVariant_nch (s : State) (v : Variant) :
    (s.setVariant v).nch = s.nch := rfl

@[simp] theorem State.setVariant_idx (s : State) (v : Variant) :
    (s.setVariant v).idx = s.idx := rfl

@[simp] theorem State.setVariant_buf (s : State) (v : Variant) :
    (s.setVariant v).buf = s.buf := rfl

@[simp] theorem State.setVariant_variant (s : State) (v : Variant) :
    (s.setVariant v).variant = v := rfl

@[simp] theorem State.setVariant_rxhi (s : State) (v : Variant) :
    (s.setVariant v).rxhi = s.rxhi := rfl

@[simp] theorem State.setVariant_pkt (s : State) (v : Variant) :
    (s.setVariant v).pkt = s.pkt := rfl

@[simp] theorem State.setVariant_pulses (s : State) (v : Variant) :
    (s.setVariant v).pulses = s.pulses := rfl

@[simp] theorem State.setVariant_switches (s : State) (v : Variant) :
    (s.setVariant v).switches = s.switches := rfl

@[simp] theorem State.setVariant_input (s : State) (v : Variant) :
    (s.setVariant v).input = s.input := rfl

@[simp] theorem State.setVariant_out (s : State) (v : Variant) :
    (s.setVariant v).out = s.out := rfl

/-! ### `State.setRxhi` -/

@[simp] theorem State.setRxhi_params (s : State) (b : Byte) :
    (s.setRxhi b).params = s.params := rfl

@[simp] theorem State.setRxhi_fsm (s : State) (b : Byte) :
    (s.setRxhi b).fsm = s.fsm := rfl

@[simp] theorem State.setRxhi_crc (s : State) (b : Byte) :
    (s.setRxhi b).crc = s.crc := rfl

@[simp] theorem State.setRxhi_nch (s : State) (b : Byte) :
    (s.setRxhi b).nch = s.nch := rfl

@[simp] theorem State.setRxhi_idx (s : State) (b : Byte) :
    (s.setRxhi b).idx = s.idx := rfl

@[simp] theorem State.setRxhi_buf (s : State) (b : Byte) :
    (s.setRxhi b).buf = s.buf := rfl

@[simp] theorem State.setRxhi_variant (s : State) (b : Byte) :
    (s.setRxhi b).variant = s.variant := rfl

@[simp] theorem State.setRxhi_rxhi (s : State) (b : Byte) :
    (s.setRxhi b).rxhi = b := rfl

@[simp] theorem State.setRxhi_pkt (s : State) (b : Byte) :
    (s.setRxhi b).pkt = s.pkt := rfl

@[simp] theorem State.setRxhi_pulses (s : State) (b : Byte) :
    (s.setRxhi b).pulses = s.pulses := rfl

@[simp] theorem State.setRxhi_switches (s : State) (b : Byte) :
    (s.setRxhi b).switches = s.switches := rfl

@[simp] theorem State.setRxhi_input (s : State) (b : Byte) :
    (s.setRxhi b).input = s.input := rfl

@[simp] theorem State.setRxhi_out (s : State) (b : Byte) :
    (s.setRxhi b).out = s.out := rfl

/-! ### `State.countFrame` -/

@[simp] theorem State.countFrame_params (s : State) :
    (s.countFrame).params = s.params := rfl

@[simp] theorem State.countFrame_fsm (s : State) :
    (s.countFrame).fsm = s.fsm := rfl

@[simp] theorem State.countFrame_crc (s : State) :
    (s.countFrame).crc = s.crc := rfl

@[simp] theorem State.countFrame_nch (s : State) :
    (s.countFrame).nch = s.nch := rfl

@[simp] theorem State.countFrame_idx (s : State) :
    (s.countFrame).idx = s.idx := rfl

@[simp] theorem State.countFrame_buf (s : State) :
    (s.countFrame).buf = s.buf := rfl

@[simp] theorem State.countFrame_variant (s : State) :
    (s.countFrame).variant = s.variant := rfl

@[simp] theorem State.countFrame_rxhi (s : State) :
    (s.countFrame).rxhi = s.rxhi := rfl

@[simp] theorem State.countFrame_pkt (s : State) :
    (s.countFrame).pkt = s.pkt + 1 := rfl

@[simp] theorem State.countFrame_pulses (s : State) :
    (s.countFrame).pulses = s.pulses := rfl

@[simp] theorem State.countFrame_switches (s : State) :
    (s.countFrame).switches = s.switches := rfl

@[simp] theorem State.countFrame_input (s : State) :
    (s.countFrame).input = s.input := rfl

@[simp] theorem State.countFrame_out (s : State) :
    (s.countFrame).out = s.out := rfl

/-! ### `State.abort` -/

@[simp] theorem State.abort_params (s : State) :
    (s.abort).params = s.params := rfl

@[simp] theorem State.abort_fsm (s : State) :
    (s.abort).fsm = .idle := rfl

@[simp] theorem State.abort_crc (s : State) :
    (s.abort).crc = s.crc := rfl

@[simp] theorem State.abort_nch (s : State) :
    (s.abort).nch = s.nch := rfl

@[simp] theorem State.abort_idx (s : State) :
    (s.abort).idx = s.idx := rfl

@[simp] theorem State.abort_buf (s : State) :
    (s.abort).buf = s.buf := rfl

@[simp] theorem State.abort_variant (s : State) :
    (s.abort).variant = s.variant := rfl

@[simp] theorem State.abort_rxhi (s : State) :
    (s.abort).rxhi = s.rxhi := rfl

@[simp] theorem State.abort_pkt (s : State) :
    (s.abort).pkt = s.pkt := rfl

@[simp] theorem State.abort_pulses (s : State) :
    (s.abort).pulses = s.pulses := rfl

@[simp] theorem State.abort_switches (s : State) :
    (s.abort).switches = s.switches := rfl

@[simp] theorem State.abort_input (s : State) :
    (s.abort).input = s.input := rfl

@[simp] theorem State.abort_out (s : State) :
    (s.abort).out = s.out := rfl

/-! ### `State.resetStep` -/

@[simp] theorem State.resetStep_params (s : State) :
    (s.resetStep).params = s.params := rfl

@[simp] theorem State.resetStep_fsm (s : State) :
    (s.resetStep).fsm = .idle := rfl

@[simp] theorem State.resetStep_crc (s : State) :
    (s.resetStep).crc = 0 := rfl

@[simp] theorem State.resetStep_nch (s : State) :
    (s.resetStep).nch = 0 := rfl

@[simp] theorem State.resetStep_idx (s : State) :
    (s.resetStep).idx = 0 := rfl

@[simp] theorem State.resetStep_buf (s : State) :
    (s.resetStep).buf = [] := rfl

@[simp] theorem State.resetStep_variant (s : State) :
    (s.resetStep).variant = .ch1to12 := rfl

@[simp] theorem State.resetStep_rxhi (s : State) :
    (s.resetStep).rxhi = 0 := rfl

@[simp] theorem State.resetStep_pkt (s : State) :
    (s.resetStep).pkt = 0 := rfl

@[simp] theorem State.resetStep_pulses (s : State) :
    (s.resetStep).pulses = s.pulses := rfl

@[simp] theorem State.resetStep_switches (s : State) :
    (s.resetStep).switches = s.switches := rfl

@[simp] theorem State.resetStep_input (s : State) :
    (s.resetStep).input = s.input := rfl

@[simp] theorem State.resetStep_out (s : State) :
    (s.resetStep).out = s.out := rfl

/-! ### `State.offerBare` -/

@[simp] theorem State.offerBare_params (s : State) (st : FsmState) (b : Byte) :
    (s.offerBare st b).params = s.params := rfl

@[simp] theorem State.offerBare_fsm (s : State) (st : FsmState) (b : Byte) :
    (s.offerBare st b).fsm = st := rfl

@[simp] theorem State.offerBare_crc (s : State) (st : FsmState) (b : Byte) :
    (s.offerBare st b).crc = s.crc := rfl

@[simp] theorem State.offerBare_nch (s : State) (st : FsmState) (b : Byte) :
    (s.offerBare st b).nch = s.nch := rfl

@[simp] theorem State.offerBare_idx (s : State) (st : FsmState) (b : Byte) :
    (s.offerBare st b).idx = s.idx := rfl

@[simp] theorem State.offerBare_buf (s : State) (st : FsmState) (b : Byte) :
    (s.offerBare st b).buf = s.buf := rfl

@[simp] theorem State.offerBare_variant (s : State) (st : FsmState) (b : Byte) :
    (s.offerBare st b).variant = s.variant := rfl

@[simp] theorem State.offerBare_rxhi (s : State) (st : FsmState) (b : Byte) :
    (s.offerBare st b).rxhi = s.rxhi := rfl

@[simp] theorem State.offerBare_pkt (s : State) (st : FsmState) (b : Byte) :
    (s.offerBare st b).pkt = s.pkt := rfl

@[simp] theorem State.offerBare_pulses (s : State) (st : FsmState) (b : Byte) :
    (s.offerBare st b).pulses = s.pulses := rfl

@[simp] theorem State.offerBare_switches (s : State) (st : FsmState) (b : Byte) :
    (s.offerBare st b).switches = s.switches := rfl

@[simp] theorem State.offerBare_input (s : State) (st : FsmState) (b : Byte) :
    (s.offerBare st b).input = Edge.offer b :: s.input := rfl

@[simp] theorem State.offerBare_out (s : State) (st : FsmState) (b : Byte) :
    (s.offerBare st b).out = s.out := rfl

/-! ### The context of the next byte -/

@[simp] theorem State.ctx_fsm (s : State) : s.ctx.fsm = s.fsm := rfl

@[simp] theorem State.ctx_startMarker (s : State) : s.ctx.startMarker = s.params.startMarker := rfl

@[simp] theorem State.ctx_idx (s : State) : s.ctx.idx = s.idx := rfl

@[simp] theorem State.ctx_nch (s : State) : s.ctx.nch = s.nch := rfl

@[simp] theorem State.ctx_rxhi (s : State) : s.ctx.rxhi = s.rxhi := rfl

@[simp] theorem State.ctx_crc (s : State) : s.ctx.crc = s.crc := rfl

/-! ### Emitting events (R42) -/

@[simp] theorem State.emit_params (s : State) (e : Event) : (s.emit e).params = s.params := by
  cases e <;> rfl

@[simp] theorem State.emit_fsm (s : State) (e : Event) : (s.emit e).fsm = s.fsm := by
  cases e <;> rfl

@[simp] theorem State.emit_crc (s : State) (e : Event) : (s.emit e).crc = s.crc := by
  cases e <;> rfl

@[simp] theorem State.emit_nch (s : State) (e : Event) : (s.emit e).nch = s.nch := by
  cases e <;> rfl

@[simp] theorem State.emit_idx (s : State) (e : Event) : (s.emit e).idx = s.idx := by
  cases e <;> rfl

@[simp] theorem State.emit_buf (s : State) (e : Event) : (s.emit e).buf = s.buf := by
  cases e <;> rfl

@[simp] theorem State.emit_variant (s : State) (e : Event) : (s.emit e).variant = s.variant := by
  cases e <;> rfl

@[simp] theorem State.emit_rxhi (s : State) (e : Event) : (s.emit e).rxhi = s.rxhi := by
  cases e <;> rfl

@[simp] theorem State.emit_pkt (s : State) (e : Event) : (s.emit e).pkt = s.pkt := by
  cases e <;> rfl

@[simp] theorem State.emit_input (s : State) (e : Event) : (s.emit e).input = s.input := by
  cases e <;> rfl

@[simp] theorem State.emit_out (s : State) (e : Event) : (s.emit e).out = s.out ++ [e] := by
  cases e <;> rfl

@[simp] theorem State.emit_frameReady_pulses (s : State) (v : Variant) (n : Count7) (l : List Word16) :
    (s.emit (.frameReady v n l)).pulses = s.pulses := rfl

@[simp] theorem State.emit_pulseWrite_pulses (s : State) (j : Nat) (p : Word16) :
    (s.emit (.pulseWrite j p)).pulses = s.pulses.set j p := rfl

@[simp] theorem State.emit_switchWrite_pulses (s : State) (i : Fin 64) (on : Bool) :
    (s.emit (.switchWrite i on)).pulses = s.pulses := rfl

@[simp] theorem State.emit_valid_pulses (s : State) : (s.emit .valid).pulses = s.pulses := rfl

@[simp] theorem State.emit_frameReady_switches (s : State) (v : Variant) (n : Count7) (l : List Word16) :
    (s.emit (.frameReady v n l)).switches = s.switches := rfl

@[simp] theorem State.emit_pulseWrite_switches (s : State) (j : Nat) (p : Word16) :
    (s.emit (.pulseWrite j p)).switches = s.switches := rfl

@[simp] theorem State.emit_switchWrite_switches (s : State) (i : Fin 64) (on : Bool) :
    (s.emit (.switchWrite i on)).switches = s.switches.set i.val on i.isLt := rfl

@[simp] theorem State.emit_valid_switches (s : State) : (s.emit .valid).switches = s.switches := rfl

/-! ### Emitting a list of events -/

@[simp] theorem State.emitAll_nil (s : State) : s.emitAll [] = s := rfl

@[simp] theorem State.emitAll_cons (s : State) (e : Event) (es : List Event) :
    s.emitAll (e :: es) = (s.emit e).emitAll es := rfl

theorem State.emitAll_append (s : State) (es fs : List Event) :
    s.emitAll (es ++ fs) = (s.emitAll es).emitAll fs := by
  induction es generalizing s with
  | nil => rfl
  | cons e es ih => exact ih (s.emit e)

@[simp] theorem State.emitAll_params (s : State) (es : List Event) : (s.emitAll es).params = s.params := by
  induction es generalizing s with
  | nil => rfl
  | cons e es ih => simp [ih]

@[simp] theorem State.emitAll_fsm (s : State) (es : List Event) : (s.emitAll es).fsm = s.fsm := by
  induction es generalizing s with
  | nil => rfl
  | cons e es ih => simp [ih]

@[simp] theorem State.emitAll_crc (s : State) (es : List Event) : (s.emitAll es).crc = s.crc := by
  induction es generalizing s with
  | nil => rfl
  | cons e es ih => simp [ih]

@[simp] theorem State.emitAll_nch (s : State) (es : List Event) : (s.emitAll es).nch = s.nch := by
  induction es generalizing s with
  | nil => rfl
  | cons e es ih => simp [ih]

@[simp] theorem State.emitAll_idx (s : State) (es : List Event) : (s.emitAll es).idx = s.idx := by
  induction es generalizing s with
  | nil => rfl
  | cons e es ih => simp [ih]

@[simp] theorem State.emitAll_buf (s : State) (es : List Event) : (s.emitAll es).buf = s.buf := by
  induction es generalizing s with
  | nil => rfl
  | cons e es ih => simp [ih]

@[simp] theorem State.emitAll_variant (s : State) (es : List Event) : (s.emitAll es).variant = s.variant := by
  induction es generalizing s with
  | nil => rfl
  | cons e es ih => simp [ih]

@[simp] theorem State.emitAll_rxhi (s : State) (es : List Event) : (s.emitAll es).rxhi = s.rxhi := by
  induction es generalizing s with
  | nil => rfl
  | cons e es ih => simp [ih]

@[simp] theorem State.emitAll_pkt (s : State) (es : List Event) : (s.emitAll es).pkt = s.pkt := by
  induction es generalizing s with
  | nil => rfl
  | cons e es ih => simp [ih]

@[simp] theorem State.emitAll_input (s : State) (es : List Event) : (s.emitAll es).input = s.input := by
  induction es generalizing s with
  | nil => rfl
  | cons e es ih => simp [ih]

@[simp] theorem State.emitAll_out (s : State) (es : List Event) : (s.emitAll es).out = s.out ++ es := by
  induction es generalizing s with
  | nil => simp
  | cons e es ih => simp [ih]

@[simp] theorem State.emitAll_pulses_length (s : State) (es : List Event) :
    (s.emitAll es).pulses.length = s.pulses.length := by
  induction es generalizing s with
  | nil => rfl
  | cons e es ih => cases e <;> simp [ih]

end Sys2Proof.Machine
end

