-- ==== Sys2Proof/Laws/Ops.lean ====
section
/-!
SUPPORT. Everything each shared step and the step itself can do, said once: the provers cite these and do
not unfold the definitions.
-/

namespace Sys2Proof.Machine

/-! ### The shared steps -/

theorem storeHigh_eq_next {b : Byte} {st : FsmState} {s t : State} :
    storeHigh b st s = .next t ↔
      s.idx.toNat < Config.bufCap ∧
        t = ((s.fold b).setBuf (s.buf.writeByte (hiAddr s.idx.toNat) b)).goto st := by
  unfold storeHigh
  by_cases h : s.idx.toNat < Config.bufCap
  · simp [bufWriteHi_of_lt _ _ h, h, eq_comm]
  · simp [bufWriteHi_of_ge _ _ h, h]

theorem storeLow_eq_next {b : Byte} {st : FsmState} {s t : State} :
    storeLow b st s = .next t ↔
      s.idx.toNat < Config.bufCap ∧
        t = (((s.fold b).setBuf (s.buf.writeByte (loAddr s.idx.toNat) b)).nextSlot).goto st := by
  unfold storeLow
  by_cases h : s.idx.toNat < Config.bufCap
  · simp [bufWriteLo_of_lt _ _ h, h, eq_comm]
  · simp [bufWriteLo_of_ge _ _ h, h]

theorem storeHigh_not_refused (b : Byte) (st : FsmState) (s : State) (r : Refusal) :
    storeHigh b st s ≠ .refused r := by
  unfold storeHigh; split <;> simp

theorem storeLow_not_refused (b : Byte) (st : FsmState) (s : State) (r : Refusal) :
    storeLow b st s ≠ .refused r := by
  unfold storeLow; split <;> simp

theorem foldThen_eq_next {b : Byte} {st : FsmState} {s t : State} :
    foldThen b st s = .next t ↔ t = (s.fold b).goto st := by
  simp [foldThen, eq_comm]

theorem acceptLength_eq_next {b : Byte} {n : Count7} {st : FsmState} {s t : State} :
    acceptLength b n st s = .next t ↔ t = ((s.fold b).beginChannels n).goto st := by
  simp [acceptLength, eq_comm]

theorem functionStep_eq_next {b : Byte} {v : Variant} {s t : State} :
    functionStep b v s = .next t ↔ t = ((s.fold b).setVariant v).goto .v3LastValid := by
  simp [functionStep, eq_comm]

theorem completeFrame_eq_next {s t : State} :
    completeFrame s = .next t ↔
      ∃ slots, readSlots s.buf 0 s.nch.toNat = .ok slots ∧
        t = (s.countFrame.emitAll (completionEvents s slots)).goto .idle := by
  unfold completeFrame
  cases readSlots s.buf 0 s.nch.toNat <;> simp [eq_comm]

theorem completeFrame_not_refused (s : State) (r : Refusal) : completeFrame s ≠ .refused r := by
  unfold completeFrame; split <;> simp

/-! ### One step -/

theorem step_of_nil {s : State} (h : s.input = []) : step s = .next s := by
  simp [step, fetch, h]

theorem step_of_cons {s : State} {e : Edge} {rest : List Edge} (h : s.input = e :: rest) :
    step s = edgeStep e { s with input := rest } := by
  simp [step, fetch, h]

/-- Every way a step can answer a next state. -/
theorem step_eq_next {s t : State} (h : step s = .next t) :
    (s.input = [] ∧ t = s) ∨
    ∃ e rest, s.input = e :: rest ∧
      ((e.rst = true ∧ t = ({ s with input := rest } : State).resetStep) ∨
       (e.rst = false ∧ e.inValid = false ∧ t = { s with input := rest }) ∨
       (e.rst = false ∧ e.inValid = true ∧
         exec (decode s.ctx e.inByte) { s with input := rest } = .next t)) := by
  cases hin : s.input with
  | nil =>
    rw [step_of_nil hin] at h
    exact .inl ⟨rfl, (Host.Outcome.next.inj h).symm⟩
  | cons e rest =>
    rw [step_of_cons hin] at h
    refine .inr ⟨e, rest, rfl, ?_⟩
    unfold edgeStep at h
    cases hr : e.rst with
    | true =>
      rw [hr] at h
      exact .inl ⟨rfl, (Host.Outcome.next.inj h).symm⟩
    | false =>
      rw [hr] at h
      cases hv : e.inValid with
      | true =>
        rw [hv] at h
        exact .inr (.inr ⟨rfl, rfl, h⟩)
      | false =>
        rw [hv] at h
        exact .inr (.inl ⟨rfl, rfl, (Host.Outcome.next.inj h).symm⟩)

/-! ### The parameters of the built block -/

/-- The built block's parameters meet the constraints of R6. -/
theorem Params.valid_built : Config.params.Valid := by
  refine ⟨?_, Nat.le_add_left 1 _⟩
  simp only [Config.params]
  split <;> omega

end Sys2Proof.Machine
end

