-- ==== Sys2Proof/Laws/PerInstr.lean ====
section
/-!
SUPPORT. The family `RowStateEncodes`: a statement about each instruction as syntax, one lemma per
constructor of `Instr` (LAWS.json, "per_instruction").
-/

namespace Sys2Proof.Laws.RowStateEncodes

/-- The byte of a well-formed instruction, read in the state of its row, is read as a row of that same
state, whatever the registers hold (R81: a byte's class never leaves its state's rows). -/
def Statement (i : Instr) : Prop :=
  i.wellFormed = true → ∀ c : Ctx, c.fsm = i.fsm → (decode c (encode i)).fsm = i.fsm

theorem decode_fsm (c : Ctx) (b : Byte) : (decode c b).fsm = c.fsm := by
  unfold decode
  split <;> (try split) <;> (try split) <;> simp_all [Instr.fsm]

theorem of_any (i : Instr) : Statement i :=
  fun _ c h => (decode_fsm c (encode i)).trans h

theorem idleSof (b : Byte) : Statement (.idleSof b) := of_any _

theorem idleOther (b : Byte) : Statement (.idleOther b) := of_any _

theorem gotStartV1 (hi : Nibble) : Statement (.gotStartV1 hi) := of_any _

theorem gotStartV3 (hi : Nibble) : Statement (.gotStartV3 hi) := of_any _

theorem gotStartBad (b : Byte) : Statement (.gotStartBad b) := of_any _

theorem startV1LenOk (b : Byte) : Statement (.startV1LenOk b) := of_any _

theorem startV1LenBad (b : Byte) : Statement (.startV1LenBad b) := of_any _

theorem v1High (b : Byte) : Statement (.v1High b) := of_any _

theorem v1LowLoop (b : Byte) : Statement (.v1LowLoop b) := of_any _

theorem v1LowEnd (b : Byte) : Statement (.v1LowEnd b) := of_any _

theorem startV3LenOk (b : Byte) : Statement (.startV3LenOk b) := of_any _

theorem startV3LenBad (b : Byte) : Statement (.startV3LenBad b) := of_any _

theorem v3High (b : Byte) : Statement (.v3High b) := of_any _

theorem v3LowLoop (b : Byte) : Statement (.v3LowLoop b) := of_any _

theorem v3LowEnd (b : Byte) : Statement (.v3LowEnd b) := of_any _

theorem v3FuncDef (b : Byte) : Statement (.v3FuncDef b) := of_any _

theorem v3FuncUnrec (b : Byte) : Statement (.v3FuncUnrec b) := of_any _

theorem v3LastValid (b : Byte) : Statement (.v3LastValid b) := of_any _

theorem v3ModeCmd (b : Byte) : Statement (.v3ModeCmd b) := of_any _

theorem v3SubCmd (b : Byte) : Statement (.v3SubCmd b) := of_any _

theorem crcHigh (b : Byte) : Statement (.crcHigh b) := of_any _

theorem crcLowMatch (b : Byte) : Statement (.crcLowMatch b) := of_any _

theorem crcLowMismatch (b : Byte) : Statement (.crcLowMismatch b) := of_any _

theorem func00 : Statement .func00 := of_any _

theorem func01 : Statement .func01 := of_any _

theorem func02 : Statement .func02 := of_any _

theorem func03 : Statement .func03 := of_any _

theorem func04 : Statement .func04 := of_any _

theorem func05 : Statement .func05 := of_any _

theorem funcUnrec (b : Byte) : Statement (.funcUnrec b) := of_any _

end Sys2Proof.Laws.RowStateEncodes
end

