-- ==== Sys2Proof/Laws/Step.lean ====
section
/-!
SUPPORT. Everything a byte step can do, said once: an invariant of the step follows by cases on this and
unfolds no meaning.
-/

namespace Sys2Proof.Machine

/-- The register updates of a byte step that answers a next state, row by row (R101 to R118). The two
rows of a function code stand as one. -/
theorem byte_cases {s t : State} {b : Byte} (h : exec (decode s.ctx b) s = .next t) :
    (s.fsm = .idle ∧ b = s.params.startMarker ∧
      t = { s with crc := crcUpdate crcReset b, fsm := .gotStart }) ∨
    (s.fsm = .idle ∧ b ≠ s.params.startMarker ∧ t = { s with fsm := .idle }) ∨
    (s.fsm = .gotStart ∧ b.toNat % 16 = 1 ∧ t = { s with crc := crcUpdate s.crc b, fsm := .startV1 }) ∨
    (s.fsm = .gotStart ∧ b.toNat % 16 = 3 ∧ t = { s with crc := crcUpdate s.crc b, fsm := .startV3 }) ∨
    (s.fsm = .gotStart ∧ b.toNat % 16 ≠ 1 ∧ b.toNat % 16 ≠ 3 ∧
      t = { s with crc := crcUpdate s.crc b, fsm := .idle }) ∨
    (s.fsm = .startV1 ∧ 2 ≤ b.toNat ∧ b.toNat ≤ 32 ∧
      t = { s with crc := crcUpdate s.crc b, nch := nchOfLenV1 b, idx := 0, fsm := .v1High }) ∨
    (s.fsm = .startV1 ∧ ¬(2 ≤ b.toNat ∧ b.toNat ≤ 32) ∧ t = { s with fsm := .idle }) ∨
    (s.fsm = .startV3 ∧ 2 ≤ b.toNat ∧ b.toNat ≤ 68 ∧
      t = { s with crc := crcUpdate s.crc b, nch := nchOfLenV3 b, idx := 0, fsm := .v3High }) ∨
    (s.fsm = .startV3 ∧ ¬(2 ≤ b.toNat ∧ b.toNat ≤ 68) ∧ t = { s with fsm := .idle }) ∨
    (s.fsm = .v1High ∧ s.idx.toNat < 66 ∧
      t = { s with crc := crcUpdate s.crc b, buf := s.buf.writeByte (hiAddr s.idx.toNat) b, fsm := .v1Low }) ∨
    (s.fsm = .v3High ∧ s.idx.toNat < 66 ∧
      t = { s with crc := crcUpdate s.crc b, buf := s.buf.writeByte (hiAddr s.idx.toNat) b, fsm := .v3Low }) ∨
    (s.fsm = .v1Low ∧ s.idx.toNat < 66 ∧ s.idx.toNat + 1 < s.nch.toNat ∧
      t = { s with crc := crcUpdate s.crc b, buf := s.buf.writeByte (loAddr s.idx.toNat) b,
                   idx := s.idx + 1, fsm := .v1High }) ∨
    (s.fsm = .v1Low ∧ s.idx.toNat < 66 ∧ ¬s.idx.toNat + 1 < s.nch.toNat ∧
      t = { s with crc := crcUpdate s.crc b, buf := s.buf.writeByte (loAddr s.idx.toNat) b,
                   idx := s.idx + 1, variant := .ch1to16, fsm := .crcHigh }) ∨
    (s.fsm = .v3Low ∧ s.idx.toNat < 66 ∧ s.idx.toNat + 1 < s.nch.toNat ∧
      t = { s with crc := crcUpdate s.crc b, buf := s.buf.writeByte (loAddr s.idx.toNat) b,
                   idx := s.idx + 1, fsm := .v3High }) ∨
    (s.fsm = .v3Low ∧ s.idx.toNat < 66 ∧ ¬s.idx.toNat + 1 < s.nch.toNat ∧
      t = { s with crc := crcUpdate s.crc b, buf := s.buf.writeByte (loAddr s.idx.toNat) b,
                   idx := s.idx + 1, fsm := .v3FuncCode }) ∨
    (s.fsm = .v3FuncCode ∧
      t = { s with crc := crcUpdate s.crc b, variant := classify b, fsm := .v3LastValid }) ∨
    (s.fsm = .v3LastValid ∧ t = { s with crc := crcUpdate s.crc b, fsm := .v3ModeCmd }) ∨
    (s.fsm = .v3ModeCmd ∧ t = { s with crc := crcUpdate s.crc b, fsm := .v3SubCmd }) ∨
    (s.fsm = .v3SubCmd ∧ t = { s with crc := crcUpdate s.crc b, fsm := .crcHigh }) ∨
    (s.fsm = .crcHigh ∧ t = { s with rxhi := b, fsm := .crcLow }) ∨
    (s.fsm = .crcLow ∧ joinBytes s.rxhi b = s.crc ∧
      ∃ slots, readSlots s.buf 0 s.nch.toNat = .ok slots ∧
        t = (s.countFrame.emitAll (completionEvents s slots)).goto .idle) ∨
    (s.fsm = .crcLow ∧ joinBytes s.rxhi b ≠ s.crc ∧ t = { s with fsm := .idle }) := by
  have next {u : State} (h : (.next u : Outcome) = .next t) : t = u := (Host.Outcome.next.inj h).symm
  have ctx : ∀ st, s.fsm = st → s.ctx.fsm = st := fun _ h => h
  cases hf : s.fsm <;> simp only [decode, ctx _ hf] at h <;>
    simp only [reduceCtorEq, false_and, false_or, or_false, true_and]
  case idle =>
    split at h
    · exact .inl ⟨‹_›, next h⟩
    · exact .inr ⟨‹_›, next h⟩
  case gotStart =>
    have hb := versionByte_nibbles b
    split at h
    · rename_i h1
      rw [h1] at hb
      refine .inl ⟨(versionNibble_eq_verV1 b).mp h1, ?_⟩
      rw [next h, hb]; rfl
    · split at h
      · rename_i h3
        rw [h3] at hb
        refine .inr (.inl ⟨(versionNibble_eq_verV3 b).mp h3, ?_⟩)
        rw [next h, hb]; rfl
      · rename_i h1 h3
        exact .inr (.inr ⟨mt (versionNibble_eq_verV1 b).mpr h1, mt (versionNibble_eq_verV3 b).mpr h3, next h⟩)
  case startV1 =>
    split at h
    · rename_i hl
      exact .inl ⟨((lenOkV1_iff b).mp hl).1, ((lenOkV1_iff b).mp hl).2, next h⟩
    · rename_i hl
      exact .inr ⟨mt (lenOkV1_iff b).mpr hl, next h⟩
  case startV3 =>
    split at h
    · rename_i hl
      exact .inl ⟨((lenOkV3_iff b).mp hl).1, ((lenOkV3_iff b).mp hl).2, next h⟩
    · rename_i hl
      exact .inr ⟨mt (lenOkV3_iff b).mpr hl, next h⟩
  case v1High => exact storeHigh_eq_next.mp h
  case v3High => exact storeHigh_eq_next.mp h
  case v1Low =>
    split at h
    · rename_i hl
      exact .inl ⟨(storeLow_eq_next.mp h).1, (morePairs_iff _ _).mp hl, (storeLow_eq_next.mp h).2⟩
    · rename_i hl
      exact .inr ⟨(storeLow_eq_next.mp h).1, mt (morePairs_iff _ _).mpr hl, (storeLow_eq_next.mp h).2⟩
  case v3Low =>
    split at h
    · rename_i hl
      exact .inl ⟨(storeLow_eq_next.mp h).1, (morePairs_iff _ _).mp hl, (storeLow_eq_next.mp h).2⟩
    · rename_i hl
      exact .inr ⟨(storeLow_eq_next.mp h).1, mt (morePairs_iff _ _).mpr hl, (storeLow_eq_next.mp h).2⟩
  case v3FuncCode =>
    split at h
    · exact next h
    · rename_i hl
      rw [classify_of_undefined b hl]
      exact next h
  case crcLow =>
    split at h
    · rename_i hl
      exact .inl ⟨(crcEqual_iff _ _ _).mp hl, completeFrame_eq_next.mp h⟩
    · rename_i hl
      exact .inr ⟨mt (crcEqual_iff _ _ _).mpr hl, next h⟩
  all_goals exact next h

end Sys2Proof.Machine
end

