-- ==== Sys2Proof/Tests/Slice0.lean ====
section
/-!
SUPPORT. Tests of single steps, and a witness for the hypotheses of each statement. Expected values come
from spec/: the trace and the vectors of 95_test_vectors.md (under its parameter set T), the tables of
30_encoding.md and 43_classifier.md, or a hand calculation named in the docstring.
-/

namespace Sys2Proof.Tests

open Sys2Proof Sys2Proof.Machine Sys2Proof.Safety

/-! ### Helpers -/

/-- The parameter set T of 95_test_vectors.md. -/
def setT (nOut : Nat) : Params := ⟨0xA8#8, 12000#16, -1024#16, 1024#16, nOut⟩

/-- A small state under T, in FSM state `st`. -/
def small (st : FsmState) : State where
  params := setT 32
  fsm := st
  crc := 0
  nch := 0
  idx := 0
  buf := []
  variant := .ch1to12
  rxhi := 0
  pkt := 0
  pulses := List.replicate 32 7#16
  switches := Vector.replicate 64 false
  input := []
  out := []

/-- `s` with byte `b` on the next edge. -/
def offered (s : State) (b : Byte) : State := { s with input := [Edge.offer b] }

/-- One field of the next state, if there is one. -/
def got {α : Type} (o : Outcome) (f : State → α) : Option α :=
  match o with
  | .next s => some (f s)
  | .fault _ => none
  | .refused _ => none

/-- The context of 95_test_vectors.md section 2 in FSM state `st`: marker A8, `nch` 2, received high byte
AA, `crc` AA42. -/
def ctxOf (st : FsmState) (idx : Count7) : Ctx := ⟨st, 0xA8#8, idx, 2, 0xAA#8, 0xAA42#16⟩

/-- The frame buffer with all 66 slots written, every byte 2E. -/
def fullBuf : Memory := (List.range 132).map fun a => (a, 0x2E#8)

/-- The state before the last byte of vector FSM-N3. -/
def beforeN3 : State :=
  { small .crcLow with crc := 0x18EB#16, rxhi := 0x18#8, nch := 2, idx := 2, variant := .ch1to16,
                       buf := [(0, 0xA8#8), (1, 0xA8#8), (2, 0x00#8), (3, 0xA8#8)] }

/-- Slots 12 to 15 of vector CONV-S2 after twelve slots of 2EE0. -/
def slotsS2 : List Word16 := List.replicate 12 0x2EE0#16 ++ [0xDEAD#16, 0xBEEF#16, 0x0123#16, 0x4567#16]

/-! ### Well-formedness: one ill-formed term for each check (R81, R82) -/

theorem test_wf_bad_version : Instr.wellFormed (.gotStartBad 0x81#8) = false ∧
    Instr.wellFormed (.gotStartBad 0xF3#8) = false ∧ Instr.wellFormed (.gotStartBad 0x02#8) = true := by decide

theorem test_wf_lenV1 : Instr.wellFormed (.startV1LenOk 33#8) = false ∧
    Instr.wellFormed (.startV1LenOk 1#8) = false ∧ Instr.wellFormed (.startV1LenOk 32#8) = true := by decide

theorem test_wf_lenV1_bad : Instr.wellFormed (.startV1LenBad 2#8) = false ∧
    Instr.wellFormed (.startV1LenBad 1#8) = true := by decide

theorem test_wf_lenV3 : Instr.wellFormed (.startV3LenOk 69#8) = false ∧
    Instr.wellFormed (.startV3LenOk 1#8) = false ∧ Instr.wellFormed (.startV3LenOk 68#8) = true := by decide

theorem test_wf_lenV3_bad : Instr.wellFormed (.startV3LenBad 68#8) = false ∧
    Instr.wellFormed (.startV3LenBad 69#8) = true := by decide

theorem test_wf_func_def : Instr.wellFormed (.v3FuncDef 6#8) = false ∧
    Instr.wellFormed (.v3FuncDef 5#8) = true := by decide

theorem test_wf_func_unrec : Instr.wellFormed (.v3FuncUnrec 5#8) = false ∧
    Instr.wellFormed (.funcUnrec 0#8) = false ∧ Instr.wellFormed (.funcUnrec 6#8) = true := by decide

theorem test_fits_marker : ¬ Instr.Fits (ctxOf .idle 0) (.idleSof 0x55#8) ∧
    ¬ Instr.Fits (ctxOf .idle 0) (.idleOther 0xA8#8) ∧ Instr.Fits (ctxOf .idle 0) (.idleSof 0xA8#8) := by decide

theorem test_fits_loop : ¬ Instr.Fits (ctxOf .v1Low 1) (.v1LowLoop 0#8) ∧
    ¬ Instr.Fits (ctxOf .v1Low 0) (.v1LowEnd 0#8) ∧ ¬ Instr.Fits (ctxOf .v3Low 1) (.v3LowLoop 0#8) ∧
    ¬ Instr.Fits (ctxOf .v3Low 0) (.v3LowEnd 0#8) := by decide

theorem test_fits_crc : ¬ Instr.Fits (ctxOf .crcLow 2) (.crcLowMatch 0x43#8) ∧
    ¬ Instr.Fits (ctxOf .crcLow 2) (.crcLowMismatch 0x42#8) := by decide

theorem test_fits_state : ¬ Instr.Fits (ctxOf .v3High 0) (.v1High 0#8) := by decide

/-! ### Decoding: the bits of each row written out (R71 to R78, R81, R160) -/

theorem test_decode_idle : decode (ctxOf .idle 0) 0b10101000#8 = .idleSof 0xA8#8 ∧
    decode (ctxOf .idle 0) 0b01010101#8 = .idleOther 0x55#8 := by decide

theorem test_decode_gotStart : decode (ctxOf .gotStart 0) 0b10000001#8 = .gotStartV1 0x8#4 ∧
    decode (ctxOf .gotStart 0) 0b11110011#8 = .gotStartV3 0xF#4 ∧
    decode (ctxOf .gotStart 0) 0b10101000#8 = .gotStartBad 0xA8#8 := by decide

theorem test_decode_startV1 : decode (ctxOf .startV1 0) 0b00100000#8 = .startV1LenOk 32#8 ∧
    decode (ctxOf .startV1 0) 0b00000010#8 = .startV1LenOk 2#8 ∧
    decode (ctxOf .startV1 0) 0b00100001#8 = .startV1LenBad 33#8 ∧
    decode (ctxOf .startV1 0) 0b00000001#8 = .startV1LenBad 1#8 := by decide

theorem test_decode_v1_channels : decode (ctxOf .v1High 0) 0b10101000#8 = .v1High 0xA8#8 ∧
    decode (ctxOf .v1Low 0) 0b11100000#8 = .v1LowLoop 0xE0#8 ∧
    decode (ctxOf .v1Low 1) 0b11100001#8 = .v1LowEnd 0xE1#8 := by decide

theorem test_decode_startV3 : decode (ctxOf .startV3 0) 0b01000100#8 = .startV3LenOk 68#8 ∧
    decode (ctxOf .startV3 0) 0b00000010#8 = .startV3LenOk 2#8 ∧
    decode (ctxOf .startV3 0) 0b01000101#8 = .startV3LenBad 69#8 ∧
    decode (ctxOf .startV3 0) 0b00000001#8 = .startV3LenBad 1#8 := by decide

theorem test_decode_v3_channels : decode (ctxOf .v3High 0) 0b00101110#8 = .v3High 0x2E#8 ∧
    decode (ctxOf .v3Low 0) 0b11100000#8 = .v3LowLoop 0xE0#8 ∧
    decode (ctxOf .v3Low 1) 0b11100001#8 = .v3LowEnd 0xE1#8 := by decide

theorem test_decode_v3_trailer : decode (ctxOf .v3FuncCode 2) 0b00000101#8 = .v3FuncDef 0x05#8 ∧
    decode (ctxOf .v3FuncCode 2) 0b00000110#8 = .v3FuncUnrec 0x06#8 ∧
    decode (ctxOf .v3LastValid 2) 0b00000001#8 = .v3LastValid 0x01#8 ∧
    decode (ctxOf .v3ModeCmd 2) 0b00000010#8 = .v3ModeCmd 0x02#8 ∧
    decode (ctxOf .v3SubCmd 2) 0b00000011#8 = .v3SubCmd 0x03#8 := by decide

theorem test_decode_crc : decode (ctxOf .crcHigh 2) 0b10101010#8 = .crcHigh 0xAA#8 ∧
    decode (ctxOf .crcLow 2) 0b01000010#8 = .crcLowMatch 0x42#8 ∧
    decode (ctxOf .crcLow 2) 0b01000011#8 = .crcLowMismatch 0x43#8 := by decide

theorem test_decode_functions : decodeFunction 0b00000000#8 = .func00 ∧ decodeFunction 0b00000001#8 = .func01 ∧
    decodeFunction 0b00000010#8 = .func02 ∧ decodeFunction 0b00000011#8 = .func03 ∧
    decodeFunction 0b00000100#8 = .func04 ∧ decodeFunction 0b00000101#8 = .func05 ∧
    decodeFunction 0b00000110#8 = .funcUnrec 0x06#8 ∧ decodeFunction 0b11111111#8 = .funcUnrec 0xFF#8 := by decide

/-- The rows of spec/opcode_table.json whose mask fixes bits, by their own words. -/
theorem test_table_words : decodeTableWord 8 0x00 = some .func00 ∧ decodeTableWord 8 0x05 = some .func05 ∧
    decodeTableWord 8 0x11 = some (.gotStartV1 0x1#4) ∧ decodeTableWord 8 0xF3 = some (.gotStartV3 0xF#4) ∧
    decodeTableWord 8 256 = none ∧ decodeTableWord 16 0 = none := by
  refine ⟨rfl, rfl, rfl, rfl, rfl, rfl⟩

theorem test_step_runs_table_word :
    got (step (State.reset.withFetchWord 8 0x05)) State.variant = some .ch1to12sw64 ∧
      got (step (State.reset.withFetchWord 8 0x11)) State.fsm = some .startV1 := by
  exact ⟨rfl, rfl⟩

/-! ### Steps: the trace of section 2 and the vectors of section 4 -/

theorem test_idle_sof : got (step (offered (small .idle) 0xA8#8)) (fun s => (s.fsm, s.crc)) =
    some (.gotStart, 0x34E2#16) := by decide

theorem test_idle_other : got (step (offered (small .idle) 0x55#8)) (fun s => (s.fsm, s.crc)) =
    some (.idle, 0#16) := by decide

/-- FSM-V1. -/
theorem test_gotStart_v1 :
    got (step (offered { small .gotStart with crc := 0x34E2#16 } 0x01#8)) (fun s => (s.fsm, s.crc)) =
      some (.startV1, 0x84F6#16) := by decide

/-- FSM-V2: the high nibble selects nothing and is folded. -/
theorem test_gotStart_v1_high_nibble :
    got (step (offered { small .gotStart with crc := 0x34E2#16 } 0x81#8)) (fun s => (s.fsm, s.crc)) =
      some (.startV1, 0x157E#16) := by decide

/-- FSM-V6. -/
theorem test_gotStart_v3 :
    got (step (offered { small .gotStart with crc := 0x34E2#16 } 0xF3#8)) (fun s => (s.fsm, s.crc)) =
      some (.startV3, 0x4BAB#16) := by decide

/-- FSM-V11: a second marker is a bad version byte, folded. -/
theorem test_gotStart_bad :
    got (step (offered { small .gotStart with crc := 0x34E2#16 } 0xA8#8)) (fun s => (s.fsm, s.crc)) =
      some (.idle, 0xA035#16) := by decide

/-- Trace step 3; the old index is not kept. -/
theorem test_startV1_ok :
    got (step (offered { small .startV1 with crc := 0x84F6#16, idx := 9 } 0x02#8))
      (fun s => (s.fsm, s.crc, s.nch, s.idx)) = some (.v1High, 0x074E#16, 2, 0) := by decide

/-- FSM-B4: 33 is rejected and not folded (R105). -/
theorem test_startV1_bad :
    got (step (offered { small .startV1 with crc := 0x84F6#16, nch := 5 } 33#8))
      (fun s => (s.fsm, s.crc, s.nch)) = some (.idle, 0x84F6#16, 5) := by decide

/-- Trace step 6. -/
theorem test_v1High :
    got (step (offered { small .v1High with crc := 0xE85A#16, nch := 2, idx := 1 } 0x2E#8))
      (fun s => (s.fsm, s.crc, s.idx, s.buf)) = some (.v1Low, 0xE38A#16, 1, [(2, 0x2E#8)]) := by decide

/-- Trace step 5. -/
theorem test_v1Low_loop :
    got (step (offered { small .v1Low with crc := 0xFB4B#16, nch := 2, buf := [(0, 0x2E#8)] } 0xE0#8))
      (fun s => (s.fsm, s.crc, s.idx, s.buf)) =
        some (.v1High, 0xE85A#16, 1, [(0, 0x2E#8), (1, 0xE0#8)]) := by decide

/-- Trace step 7. -/
theorem test_v1Low_end :
    got (step (offered { small .v1Low with crc := 0xE38A#16, nch := 2, idx := 1 } 0xE1#8))
      (fun s => (s.fsm, s.crc, s.idx, s.variant)) = some (.crcHigh, 0xAA42#16, 2, .ch1to16) := by decide

/-- The prefix A8 03 12 of section 3. -/
theorem test_startV3_ok :
    got (step (offered { small .startV3 with crc := 0xA4B4#16 } 0x12#8))
      (fun s => (s.fsm, s.crc, s.nch, s.idx)) = some (.v3High, 0x731D#16, 16, 0) := by decide

/-- FSM-B10: 69 is rejected and not folded (R109). -/
theorem test_startV3_bad :
    got (step (offered { small .startV3 with crc := 0xA4B4#16, nch := 5 } 69#8))
      (fun s => (s.fsm, s.crc, s.nch)) = some (.idle, 0xA4B4#16, 5) := by decide

/-- The fold is that of the prefix A8 01 10 2E of section 3 (its row A8 03 12 2E contradicts R141: log entry
20). -/
theorem test_v3High :
    got (step (offered { small .v3High with crc := 0x353D#16, nch := 16 } 0x2E#8))
      (fun s => (s.fsm, s.crc, s.buf)) = some (.v3Low, 0x9E5A#16, [(0, 0x2E#8)]) := by decide

/-- The fold is that of trace step 5. -/
theorem test_v3Low_loop :
    got (step (offered { small .v3Low with crc := 0xFB4B#16, nch := 16 } 0xE0#8))
      (fun s => (s.fsm, s.crc, s.idx, s.buf)) = some (.v3High, 0xE85A#16, 1, [(1, 0xE0#8)]) := by decide

/-- FSM-B6: with `nch` 0 one pair is consumed; `idx` is 1 and `variant` is not written (R111, R123). -/
theorem test_v3Low_end :
    got (step (offered { small .v3Low with nch := 0, variant := .ch1to8and17to24 } 0xE0#8))
      (fun s => (s.fsm, s.idx, s.variant)) = some (.v3FuncCode, 1, .ch1to8and17to24) := by decide

theorem test_v3Func_def :
    got (step (offered (small .v3FuncCode) 0x05#8)) (fun s => (s.fsm, s.variant)) =
      some (.v3LastValid, .ch1to12sw64) := by decide

/-- CLS-7: 0xA8 is no code, and the frame goes on. -/
theorem test_v3Func_unrec :
    got (step (offered (small .v3FuncCode) 0xA8#8)) (fun s => (s.fsm, s.variant, s.crc)) =
      some (.v3LastValid, .unrec, 0x34E2#16) := by decide

/-- CRC-2 gives the folded value of the byte 01. -/
theorem test_v3LastValid :
    got (step (offered (small .v3LastValid) 0x01#8)) (fun s => (s.fsm, s.crc)) =
      some (.v3ModeCmd, 0x1021#16) := by decide

theorem test_v3ModeCmd :
    got (step (offered (small .v3ModeCmd) 0x01#8)) (fun s => (s.fsm, s.crc)) =
      some (.v3SubCmd, 0x1021#16) := by decide

theorem test_v3SubCmd :
    got (step (offered (small .v3SubCmd) 0x01#8)) (fun s => (s.fsm, s.crc)) =
      some (.crcHigh, 0x1021#16) := by decide

/-- Trace step 8: not folded. -/
theorem test_crcHigh :
    got (step (offered { small .crcHigh with crc := 0xAA42#16 } 0xAA#8)) (fun s => (s.fsm, s.crc, s.rxhi)) =
      some (.crcLow, 0xAA42#16, 0xAA#8) := by decide

/-- FSM-N3. -/
theorem test_crcLow_match :
    got (step (offered beforeN3 0xEB#8)) (fun s => (s.fsm, s.pkt, s.out)) =
      some (.idle, 1, [.frameReady .ch1to16 2 [0xA8A8#16, 0x00A8#16], .pulseWrite 0 1024#16,
        .pulseWrite 1 (-1024#16), .valid]) := by decide

/-- FSM-N6: the counter wraps. -/
theorem test_crcLow_match_wraps :
    got (step (offered { beforeN3 with pkt := 0xFFFFFFFF#32 } 0xEB#8)) State.pkt = some 0#32 := by decide

/-- FSM-N4: the last byte off by one bit. -/
theorem test_crcLow_mismatch :
    got (step (offered beforeN3 0xEA#8)) (fun s => (s.fsm, s.pkt, s.out)) = some (.idle, 0, []) := by decide

/-! The classifier's rows. A code below 8 folded into a zero accumulator is the code times 0x1021, the bits
of the shifted polynomials being disjoint (R141 by hand; CRC-2 and CRC-6 for 01 and 00). -/

theorem test_func00 : got (exec .func00 { small .v3FuncCode with variant := .unrec })
    (fun s => (s.variant, s.crc)) = some (.ch1to12, 0x0000#16) := by decide

theorem test_func01 : got (exec .func01 (small .v3FuncCode)) (fun s => (s.variant, s.crc)) =
    some (.ch1to8and13to16, 0x1021#16) := by decide

theorem test_func02 : got (exec .func02 (small .v3FuncCode)) (fun s => (s.variant, s.crc)) =
    some (.ch1to16, 0x2042#16) := by decide

theorem test_func03 : got (exec .func03 (small .v3FuncCode)) (fun s => (s.variant, s.crc)) =
    some (.ch1to8and17to24, 0x3063#16) := by decide

theorem test_func04 : got (exec .func04 (small .v3FuncCode)) (fun s => (s.variant, s.crc)) =
    some (.ch1to8and25to32, 0x4084#16) := by decide

theorem test_func05 : got (exec .func05 (small .v3FuncCode)) (fun s => (s.variant, s.crc)) =
    some (.ch1to12sw64, 0x50A5#16) := by decide

theorem test_funcUnrec : got (exec (.funcUnrec 0x06#8) (small .v3FuncCode)) (fun s => (s.variant, s.crc)) =
    some (.unrec, 0x60C6#16) := by decide

/-! ### The CRC, the converter, reset -/

/-- CRC-4, CRC-5 and the check value CRC-7. -/
theorem test_crc : crcUpdate 0xFFFF#16 0xFF#8 = 0xFF00#16 ∧ crcUpdate 0x8000#16 0x00#8 = 0x9188#16 ∧
    crc16 [0x31#8, 0x32#8, 0x33#8, 0x34#8, 0x35#8, 0x36#8, 0x37#8, 0x38#8, 0x39#8] = 0x31C3#16 := by
  decide +kernel

/-- CONV-T1 to CONV-T7: at each clamp bound and one past it. -/
theorem test_toPulse : toPulse (setT 32) 0x2EE0#16 = 0#16 ∧ toPulse (setT 32) 0x32E0#16 = 1024#16 ∧
    toPulse (setT 32) 0x32E1#16 = 1024#16 ∧ toPulse (setT 32) 0x2AE0#16 = -1024#16 ∧
    toPulse (setT 32) 0x2ADF#16 = -1024#16 ∧ toPulse (setT 32) 0x2EDF#16 = -1#16 := by decide

/-- CONV-T10: a raw value is unsigned. -/
theorem test_toPulse_unsigned : toPulse (setT 32) 0x8000#16 = 1024#16 := by decide

/-- CONV-S2: 36 switches true and 28 false; switch 0 is bit 0 of the last byte. -/
theorem test_switches :
    ((unpackSwitches slotsS2).filter fun e => match e with
      | .switchWrite _ on => on
      | _ => false).length = 36 ∧
    (unpackSwitches slotsS2).length = 64 ∧ (unpackSwitches slotsS2)[0]? = some (.switchWrite 0 true) ∧
    (unpackSwitches slotsS2)[63]? = some (.switchWrite 63 true) ∧
    (unpackSwitches slotsS2)[3]? = some (.switchWrite 3 false) := by decide

/-- CONV-G4: 15 channels carry no bitmap. -/
theorem test_switches_gated : unpackSwitches (slotsS2.take 15) = [] := by decide

/-- CONV-C3 with 20 outputs: slots 8 to 11 go to outputs 16 to 19, the capacity guard skips the rest. -/
theorem test_capacity_guard :
    ((convert (setT 20) (List.replicate 16 0x2EE0#16) .ch1to8and17to24).map fun e => match e with
      | .pulseWrite j _ => j
      | _ => 99) = [0, 1, 2, 3, 4, 5, 6, 7, 16, 17, 18, 19, 99] := by decide

/-- FSM-N7: a reset step in the middle of a frame. `rst` wins over the byte offered with it. -/
theorem test_reset_step :
    got (step { small .v1Low with pkt := 9, buf := [(0, 0x2E#8)], input := [⟨true, true, 0xA8#8⟩] })
      (fun s => (s.fsm, s.pkt, s.buf, s.pulses)) = some (.idle, 0, [], List.replicate 32 7#16) := by decide

/-- FSM-N8. -/
theorem test_idle_edge :
    got (step { small .v1Low with input := [⟨false, false, 0xA8#8⟩] }) (fun s => s) = some (small .v1Low) := by
  decide

/-- The collaborators' storage takes the writes of a completion (R42). -/
theorem test_sinks_take_writes :
    got (step (offered beforeN3 0xEB#8)) (fun s => (s.pulses.take 3, s.switches)) =
      some ([1024#16, -1024#16, 7#16], Vector.replicate 64 false) := by decide

/-- A read of an unwritten half stops (R35; log entry 3). -/
theorem test_unwritten_stops :
    exec (.crcLowMatch 0xEB#8) { beforeN3 with buf := [(0, 0xA8#8), (1, 0xA8#8), (2, 0x00#8)] } =
      .fault (.unwrittenSlot 1) := rfl

/-! ### Witnesses: for each statement with hypotheses, states and operands that meet them -/

/-- Row 3 of R81's map fits its context; so do the last rows of the two loops. -/
theorem witness_DecodeEncodeAgree :
    (Instr.classifierRow (.gotStartV1 0xF#4) = false ∧ Instr.wellFormed (.gotStartV1 0xF#4) = true ∧
      Instr.Fits (ctxOf .gotStart 0) (.gotStartV1 0xF#4) ∧ encode (.gotStartV1 0xF#4) = 0xF1#8) ∧
    decode (ctxOf .v3Low 1) 0xFF#8 = .v3LowEnd 0xFF#8 := by decide

theorem witness_FunctionRowDecodeEncodeAgree :
    (Instr.classifierRow (.funcUnrec 6#8) = true ∧ Instr.wellFormed (.funcUnrec 6#8) = true ∧
      encode (.funcUnrec 6#8) = 6#8) ∧ decodeFunction 5#8 = .func05 := by decide

theorem witness_WrittenOutBytesDecode :
    (ctxOf .gotStart 0).fsm = .gotStart ∧ (ctxOf .startV1 0).fsm = .startV1 ∧
      (ctxOf .startV3 0).fsm = .startV3 ∧ (ctxOf .v3FuncCode 0).fsm = .v3FuncCode := by decide

theorem witness_StepRunsDecodedInstruction :
    (offered (small .idle) 0xA8#8).input = Edge.offer 0xA8#8 :: [] := rfl

theorem witness_IdleEdgeChangesNothing :
    ({ small .v1Low with input := [⟨false, false, 0xA8#8⟩] } : State).input = ⟨false, false, 0xA8#8⟩ :: [] ∧
      (small .v1Low).input = [] := ⟨rfl, rfl⟩

/-- With a byte offered on the same edge, and without one. -/
theorem witness_ResetStepEffect :
    ({ small .v1Low with input := [⟨true, true, 0xA8#8⟩] } : State).input = ⟨true, true, 0xA8#8⟩ :: [] ∧
      ({ small .crcLow with input := [⟨true, false, 0#8⟩] } : State).input = ⟨true, false, 0#8⟩ :: [] :=
  ⟨rfl, rfl⟩

/-- The last pulse output there is. -/
theorem witness_PowerOnState : State.reset.params.nOut - 1 < State.reset.params.nOut :=
  Nat.sub_lt (Nat.succ_pos _) Nat.one_pos

theorem witness_ResetStepLeavesPowerOnState :
    ∃ s : State, s.params = Config.params ∧ s.pulses = Config.sinkPulse0 ∧ s.switches = Config.sinkSw0 ∧
      s.out = [] ∧ s.input = [⟨true, true, 0xA8#8⟩] ∧ s.fsm = .crcLow ∧ s.pkt = 9 :=
  ⟨{ State.reset with fsm := .crcLow, pkt := 9, input := [⟨true, true, 0xA8#8⟩] },
    rfl, rfl, rfl, rfl, rfl, rfl, rfl⟩

theorem witness_IdleTakesTheMarkerOrDiscards :
    (small .idle).fsm = .idle ∧ (0xA8#8 : Byte) = (small .idle).params.startMarker ∧
      (0xA9#8 : Byte) ≠ (small .idle).params.startMarker := by decide

theorem witness_VersionByteSelectsTheFormat : (small .gotStart).fsm = .gotStart := rfl

/-- The nibbles next to the two version codes. -/
theorem witness_BadVersionNibbleAborts :
    (small .gotStart).fsm = .gotStart ∧ (0x00#8).toNat % 16 ≠ 1 ∧ (0x00#8).toNat % 16 ≠ 3 ∧
      (0xF2#8).toNat % 16 ≠ 1 ∧ (0xF2#8).toNat % 16 ≠ 3 ∧ (0x04#8).toNat % 16 ≠ 1 ∧
      (0x04#8).toNat % 16 ≠ 3 := by decide

/-- Both edges of the range. -/
theorem witness_LengthV1Accepted :
    (small .startV1).fsm = .startV1 ∧ 2 ≤ (2#8).toNat ∧ (2#8).toNat ≤ 32 ∧ 2 ≤ (32#8).toNat ∧
      (32#8).toNat ≤ 32 := by decide

/-- Each side of the range. -/
theorem witness_LengthV1Rejected :
    (small .startV1).fsm = .startV1 ∧ (1#8).toNat ≤ 1 ∧ 33 ≤ (33#8).toNat ∧ 33 ≤ (255#8).toNat := by decide

theorem witness_LengthV3Accepted :
    (small .startV3).fsm = .startV3 ∧ 2 ≤ (2#8).toNat ∧ (2#8).toNat ≤ 68 ∧ 2 ≤ (68#8).toNat ∧
      (68#8).toNat ≤ 68 := by decide

theorem witness_LengthV3Rejected :
    (small .startV3).fsm = .startV3 ∧ (1#8).toNat ≤ 1 ∧ 69 ≤ (69#8).toNat ∧ 69 ≤ (255#8).toNat := by decide

/-- The last slot there is. -/
theorem witness_HighByteStored :
    ({ small .v1High with idx := 65 } : State).idx.toNat < 66 ∧
      ({ small .v1High with idx := 65 } : State).fsm = .v1High ∧
      ({ small .v3High with idx := 65 } : State).idx.toNat < 66 ∧
      ({ small .v3High with idx := 65 } : State).fsm = .v3High := by decide

/-- The clause that loops at its largest index, and the clause that ends at its smallest. -/
theorem witness_LowByteV1Stored :
    (({ small .v1Low with nch := 32, idx := 30 } : State).idx.toNat < 66 ∧
      ({ small .v1Low with nch := 32, idx := 30 } : State).fsm = .v1Low ∧
      ({ small .v1Low with nch := 32, idx := 30 } : State).idx.toNat + 1 < (32 : Count7).toNat) ∧
    (({ small .v1Low with nch := 32, idx := 31 } : State).idx.toNat < 66 ∧
      ({ small .v1Low with nch := 32, idx := 31 } : State).fsm = .v1Low ∧
      (32 : Count7).toNat ≤ ({ small .v1Low with nch := 32, idx := 31 } : State).idx.toNat + 1) := by decide

theorem witness_LowByteV3Stored :
    (({ small .v3Low with nch := 66, idx := 64 } : State).idx.toNat < 66 ∧
      ({ small .v3Low with nch := 66, idx := 64 } : State).fsm = .v3Low ∧
      ({ small .v3Low with nch := 66, idx := 64 } : State).idx.toNat + 1 < (66 : Count7).toNat) ∧
    (({ small .v3Low with nch := 66, idx := 65 } : State).idx.toNat < 66 ∧
      ({ small .v3Low with nch := 66, idx := 65 } : State).fsm = .v3Low ∧
      (66 : Count7).toNat ≤ ({ small .v3Low with nch := 66, idx := 65 } : State).idx.toNat + 1) ∧
    (0 : Count7).toNat ≤ (small .v3Low).idx.toNat + 1 := by decide

theorem witness_ChannelPairIsBigEndian : ({ small .v1High with idx := 65 } : State).idx.toNat < 66 := by decide

theorem witness_StoreBeyondTheBufferStops :
    66 ≤ ({ small .v1High with idx := 66 } : State).idx.toNat ∧
      Instr.v3LowEnd 0#8 ∈
        [Instr.v1High 0#8, .v1LowLoop 0#8, .v1LowEnd 0#8, .v3High 0#8, .v3LowLoop 0#8, .v3LowEnd 0#8] := by
  decide

/-- The last defined code and the first reserved one. -/
theorem witness_FunctionCodeClassified :
    (small .v3FuncCode).fsm = .v3FuncCode ∧ (5#8).toNat ≤ 5 ∧ 6 ≤ (6#8).toNat := by decide

theorem witness_MatchingRowsAgree :
    Instr.func05 ∈ decodeRows (ctxOf .v3FuncCode 0) 5#8 ∧
      Instr.v3FuncUnrec 6#8 ∈ decodeRows (ctxOf .v3FuncCode 0) 6#8 := by decide

theorem witness_TrailerBytesOnlyFolded :
    (small .v3LastValid).fsm = .v3LastValid ∧ (small .v3ModeCmd).fsm = .v3ModeCmd ∧
      (small .v3SubCmd).fsm = .v3SubCmd := by decide

theorem witness_CrcHighByteKept : (small .crcHigh).fsm = .crcHigh := rfl

theorem witness_CrcMismatchDiscardsTheFrame :
    beforeN3.fsm = .crcLow ∧ beforeN3.rxhi.toNat * 256 + (0xEA#8).toNat ≠ beforeN3.crc.toNat := by decide

/-- Vector FSM-N3, and a frame without channels. -/
theorem witness_CrcMatchCompletesTheFrame :
    (([0xA8A8#16, 0x00A8#16] : List Word16).length = beforeN3.nch.toNat ∧ beforeN3.nch.toNat ≤ 66 ∧
      (∀ k (h : k < ([0xA8A8#16, 0x00A8#16] : List Word16).length),
        beforeN3.buf.readByte (hiAddr k) = some (highByte ([0xA8A8#16, 0x00A8#16] : List Word16)[k]) ∧
        beforeN3.buf.readByte (loAddr k) = some (lowByte ([0xA8A8#16, 0x00A8#16] : List Word16)[k])) ∧
      beforeN3.fsm = .crcLow ∧ beforeN3.rxhi.toNat * 256 + (0xEB#8).toNat = beforeN3.crc.toNat) ∧
    ([] : List Word16).length = (small .crcLow).nch.toNat := by decide

/-- The last output a variant maps, and the first it does not. -/
theorem witness_CompletionWritesTheMappedOutputs :
    ∃ t, readSlots beforeN3.buf 0 beforeN3.nch.toNat = .ok [0xA8A8#16, 0x00A8#16] ∧
      beforeN3.pulses.length = beforeN3.params.nOut ∧ exec (.crcLowMatch 0xEB#8) beforeN3 = .next t ∧
      sourceSlot beforeN3.variant 15 = some 15 ∧ sourceSlot beforeN3.variant 16 = none ∧
      (31 < beforeN3.params.nOut) :=
  ⟨_, rfl, rfl, rfl, rfl, rfl, by decide⟩

/-- A switch frame of exactly 16 channels, and one of 2. -/
theorem witness_SwitchFrameSetsEverySwitch :
    (∃ t, readSlots fullBuf 0 16 = .ok (List.replicate 16 0x2E2E#16) ∧
      exec (.crcLowMatch 0#8) { small .crcLow with nch := 16, buf := fullBuf, variant := .ch1to12sw64 } = .next t) ∧
    ∃ t, readSlots beforeN3.buf 0 2 = .ok [0xA8A8#16, 0x00A8#16] ∧
      exec (.crcLowMatch 0#8) { beforeN3 with variant := .ch1to12sw64 } = .next t :=
  ⟨⟨_, rfl, rfl⟩, ⟨_, rfl, rfl⟩⟩

/-- The last slot of a full frame with its low half unwritten, a first slot with its high half unwritten,
and a first slot that does not exist. -/
theorem witness_UnreadableSlotStopsTheCompletion :
    (65 < ({ small .crcLow with nch := 66, buf := fullBuf.take 131 } : State).nch.toNat ∧
      Memory.readByte (fullBuf.take 131) (loAddr 65) = none) ∧
    (0 < ({ small .crcLow with nch := 1 } : State).nch.toNat ∧
      (small .crcLow).buf.readByte (hiAddr 0) = none) ∧
    (66 < ({ small .crcLow with nch := 67, buf := fullBuf } : State).nch.toNat ∧ 66 ≤ 66) :=
  ⟨⟨by decide, rfl⟩, ⟨by decide, rfl⟩, by decide, Nat.le_refl 66⟩

theorem witness_ValidEndsEveryNamedConversion : Variant.ch1to12 ≠ .unrec ∧ Variant.unrec = .unrec := by decide

theorem witness_AtMost78EventsPerStep : ∃ t, step (offered beforeN3 0xEB#8) = .next t := ⟨_, rfl⟩

theorem witness_CrcDetectsAChangedByte : (0x00#8 : Byte) ≠ 0x01#8 := by decide

theorem witness_NextStateTable :
    ∃ t, (offered beforeN3 0xEB#8).input = Edge.offer 0xEB#8 :: [] ∧ step (offered beforeN3 0xEB#8) = .next t :=
  ⟨_, rfl, rfl⟩

theorem witness_FoldSummary :
    ∃ t, (offered (small .startV1) 33#8).input = Edge.offer 33#8 :: [] ∧
      step (offered (small .startV1) 33#8) = .next t :=
  ⟨_, rfl, rfl⟩

/-- A completion step, and a reset step. -/
theorem witness_PacketCounterCountsFrames :
    (∃ t, step (offered beforeN3 0xEB#8) = .next t) ∧
      ∃ t, step { small .crcLow with pkt := 9, input := [⟨true, true, 0#8⟩] } = .next t :=
  ⟨⟨_, rfl⟩, ⟨_, rfl⟩⟩

theorem witness_ParametersNeverChange : ∃ t, step (offered beforeN3 0xEB#8) = .next t := ⟨_, rfl⟩

/-- In `CrcLow`: a byte that does not match, and a reset edge with the byte that would. -/
theorem witness_OnlyCompletionsWriteOutputs :
    (∃ t, step (offered beforeN3 0xEA#8) = .next t ∧ ¬ Completes (offered beforeN3 0xEA#8)) ∧
    ∃ t, step { beforeN3 with input := [⟨true, true, 0xEB#8⟩] } = .next t ∧
      ¬ Completes { beforeN3 with input := [⟨true, true, 0xEB#8⟩] } := by
  refine ⟨⟨_, rfl, ?_⟩, ⟨_, rfl, ?_⟩⟩
  · rintro ⟨-, b, rest, hin, hcrc⟩
    obtain ⟨rfl, rfl⟩ : 0xEA#8 = b ∧ [] = rest := by simpa [offered, Edge.offer] using hin
    exact absurd hcrc (by decide)
  · rintro ⟨-, b, rest, hin, -⟩
    simp [Edge.offer] at hin

/-- A write to the last byte of the buffer. -/
theorem witness_EveryStepKeepsTheBufferCanonical :
    ∃ t, (small .v3Low).buf.wf = true ∧ step (offered { small .v3Low with nch := 66, idx := 65 } 0#8) = .next t :=
  ⟨_, by decide, rfl⟩

theorem fullBuf_written : WrittenBelow fullBuf 132 := by
  intro a ha
  have h : ∀ n lo, lo ≤ a → a < lo + n →
      Memory.readByte ((List.range' lo n).map fun x => (x, 0x2E#8)) a = some 0x2E#8 := by
    intro n
    induction n with
    | zero => omega
    | succ n ih =>
      intro lo h1 h2
      rw [List.range'_succ, List.map_cons, Memory.readByte]
      split
      · rfl
      · exact ih (lo + 1) (by omega) (by omega)
  rw [fullBuf, List.range_eq_range', h 132 0 (Nat.zero_le a) (by omega)]
  rfl

theorem fullBuf_wf : Memory.wf fullBuf = true := by decide +kernel

/-- The completion of the longest frame: every slot written, `nch` and `idx` at their bounds. -/
theorem blockInv_full : BlockInv (offered { small .crcLow with nch := 66, idx := 66, buf := fullBuf } 0#8) :=
  ⟨fullBuf_wf, rfl, by decide, by decide, by decide, fullBuf_written⟩

/-- The only pair of a frame without channels, its high byte written. -/
theorem blockInv_zero_channels : BlockInv (offered { small .v3Low with buf := [(0, 1#8)] } 0#8) :=
  ⟨rfl, rfl, by decide, by decide, by decide, by
    intro a ha
    change a < 1 at ha
    obtain rfl : a = 0 := by omega
    rfl⟩

theorem witness_EveryStepKeepsTheInvariant :
    ∃ s t, BlockInv s ∧ step s = .next t ∧ s.nch = 66 ∧ s.fsm = .crcLow :=
  ⟨_, _, blockInv_full, rfl, rfl, rfl⟩

/-- The frame of FSM-N3 before its last byte, and the zero-channel frame of program P4 before its CRC. -/
theorem witness_EveryStepKeepsTheFrameSoFar :
    (∃ t, FrameSoFar (offered beforeN3 0xEB#8) [0xA8#8, 0x01#8, 0x02#8, 0xA8#8, 0xA8#8, 0x00#8, 0xA8#8] ∧
      step (offered beforeN3 0xEB#8) = .next t) ∧
    ∃ s t, FrameSoFar s [0xA8#8, 0x03#8, 0x02#8, 0x12#8, 0x34#8, 0x00#8, 0x00#8, 0x00#8, 0x00#8] ∧
      step s = .next t ∧ s.fsm = .crcHigh ∧ s.nch = 0 :=
  ⟨⟨_, ⟨fun _ => by decide +kernel, .inl ⟨⟨0x0#4, 0x02#8, [0xA8#8, 0xA8#8, 0x00#8, 0xA8#8], by decide, by decide,
      by decide, by decide, by decide, by unfold HoldsBytes; decide⟩, by decide, by decide⟩⟩, rfl⟩,
    ⟨offered { small .crcHigh with crc := 0x8D0B#16, idx := 1, buf := [(0, 0x12#8), (1, 0x34#8)] } 0x8D#8, _,
      ⟨fun _ => by decide +kernel, .inr ⟨0, 0, 0, 0, ⟨0x0#4, 0x02#8, [0x12#8, 0x34#8], by decide, by decide,
        by decide, by decide, by decide, by unfold HoldsBytes; decide⟩, by decide, by decide⟩⟩, rfl, rfl, rfl⟩⟩

theorem witness_EveryStepCompletesUnderTheInvariant : ∃ s, BlockInv s ∧ s.nch = 66 ∧ s.fsm = .crcLow :=
  ⟨_, blockInv_full, rfl, rfl⟩

/-- The state that is farthest from `Idle`: the version byte of the longest frame comes next. -/
theorem witness_BackInIdleWithin140Bytes :
    ∃ (s : State) (bs : List Byte) (rest : List Edge),
      BlockInv s ∧ s.input = offers bs ++ rest ∧ bs.length = 140 ∧ s.fsm = .gotStart :=
  ⟨{ small .gotStart with input := offers (List.replicate 140 0x44#8) }, List.replicate 140 0x44#8, [],
    ⟨rfl, rfl, by decide, trivial⟩, by simp, by simp, rfl⟩

/-- Two states before a function-code byte that differ in `idx`, `variant`, `rxhi` and a stale slot. -/
theorem witness_DeadStateReachesNoOutput :
    ∃ s t s', Indistinguishable s t ∧ step s = .next s' ∧ s ≠ t ∧ s.fsm = .v3FuncCode ∧ s.buf ≠ t.buf :=
  ⟨offered { small .v3FuncCode with nch := 2, idx := 2, buf := beforeN3.buf } 0x05#8,
    offered { small .v3FuncCode with nch := 2, idx := 9, variant := .unrec, rxhi := 3#8,
                                     buf := beforeN3.buf ++ [(4, 1#8)] } 0x05#8, _,
    ⟨rfl, rfl, rfl, ⟨rfl, rfl, rfl, rfl⟩, rfl, rfl, by
      intro a ha
      have : a = 0 ∨ a = 1 ∨ a = 2 ∨ a = 3 := by
        change a < 4 at ha
        omega
      rcases this with rfl | rfl | rfl | rfl <;> rfl⟩,
    rfl, by decide, rfl, by decide⟩

theorem witness_ResetValuesAreUnobservable :
    ∃ s', (offered (small .idle) 0xA8#8).fsm = .idle ∧ runSteps 1 (offered (small .idle) 0xA8#8) = .next s' :=
  ⟨_, rfl, rfl⟩

/-- Both edges of the V1 channel count; the frame of FSM-N3 is accepted, and with its last byte off by one
bit it is not. -/
theorem witness_FrameV1DecidedByItsCrc :
    (2 ≤ (List.replicate 2 0#16 : List Word16).length ∧ (List.replicate 2 0#16 : List Word16).length ≤ 32) ∧
    (2 ≤ (List.replicate 32 0#16 : List Word16).length ∧ (List.replicate 32 0#16 : List Word16).length ≤ 32) ∧
    (∃ s : State, s.fsm = .idle ∧
      s.input = offers (coveredV1 s.params.startMarker 0#4 [0xA8A8#16, 0x00A8#16] ++ [0x18#8, 0xEB#8]) ++ []) ∧
    (0x18#8).toNat * 256 + (0xEB#8).toNat = (crc16 (coveredV1 0xA8#8 0#4 [0xA8A8#16, 0x00A8#16])).toNat ∧
    (0x18#8).toNat * 256 + (0xEA#8).toNat ≠ (crc16 (coveredV1 0xA8#8 0#4 [0xA8A8#16, 0x00A8#16])).toNat :=
  ⟨by decide, by decide,
    ⟨{ small .idle with
        input := offers (coveredV1 0xA8#8 0#4 [0xA8A8#16, 0x00A8#16] ++ [0x18#8, 0xEB#8]) ++ [] }, rfl, rfl⟩,
    by decide +kernel, by decide +kernel⟩

/-- A frame of 66 channels, and the zero-channel frame of program P4 with its CRC 8D 0B. -/
theorem witness_FrameV3DecidedByItsCrc :
    (66 ≤ 66 ∧ (List.replicate 66 0#16 : List Word16).length = max 66 1) ∧
    (0 ≤ 66 ∧ ([0x1234#16] : List Word16).length = max 0 1) ∧
    (∃ s : State, s.fsm = .idle ∧
      s.input = offers (coveredV3 s.params.startMarker 0#4 0 [0x1234#16] 0#8 0#8 0#8 0#8 ++ [0x8D#8, 0x0B#8]) ++
        []) ∧
    (0x8D#8).toNat * 256 + (0x0B#8).toNat = (crc16 (coveredV3 0xA8#8 0#4 0 [0x1234#16] 0#8 0#8 0#8 0#8)).toNat :=
  ⟨by simp, by decide,
    ⟨{ small .idle with
        input := offers (coveredV3 0xA8#8 0#4 0 [0x1234#16] 0#8 0#8 0#8 0#8 ++ [0x8D#8, 0x0B#8]) ++ [] },
      rfl, rfl⟩,
    by decide +kernel⟩

theorem witness_TableWordRunsItsRow :
    State.reset.params.startMarker = Config.params.startMarker ∧ decodeTableWord 8 0xF3 = some (.gotStartV3 0xF#4) :=
  ⟨rfl, rfl⟩

end Sys2Proof.Tests
end

section
/-!
The family of 00_scope.md: no step changes a parameter (R7), and no byte sequence faults (R5).

The only rows that touch the frame buffer are the six stores and the completion step. `BufferReady` names
what such a row needs of the state, `exec_next_iff` says that a row answers a next state exactly then, and
`bufferReady_of_frameInv` finds it in R34's row of the row's own FSM state.
-/

namespace Sys2Proof.Scope

open Sys2Proof.Machine Sys2Proof.Safety

/-! ### The parameters -/

theorem storeHigh_keeps_params {b : Byte} {st : FsmState} {s t : State} (h : storeHigh b st s = .next t) :
    t.params = s.params := by
  obtain ⟨-, rfl⟩ := storeHigh_eq_next.mp h
  simp

theorem storeLow_keeps_params {b : Byte} {st : FsmState} {s t : State} (h : storeLow b st s = .next t) :
    t.params = s.params := by
  obtain ⟨-, rfl⟩ := storeLow_eq_next.mp h
  simp

theorem completeFrame_keeps_params {s t : State} (h : completeFrame s = .next t) :
    t.params = s.params := by
  obtain ⟨slots, -, rfl⟩ := completeFrame_eq_next.mp h
  simp

/-- No row changes a parameter, in any state: the rows that neither store nor complete a frame are record
updates of other fields. -/
theorem exec_keeps_params {i : Instr} {s t : State} (h : exec i s = .next t) : t.params = s.params := by
  cases i with
  | v1High | v3High => exact storeHigh_keeps_params h
  | v1LowLoop | v3LowLoop | v3LowEnd => exact storeLow_keeps_params h
  | v1LowEnd => exact (storeLow_keeps_params h).trans (s.setVariant_params v1Variant)
  | crcLowMatch => exact completeFrame_keeps_params h
  | _ => cases h; rfl

/-- Settles O42, by cases on what a step can be: no edge, a reset, an idle edge, or a byte's row. -/
theorem parametersNeverChange : Obligations.ParametersNeverChange := by
  intro s t h
  obtain ⟨-, rfl⟩ | ⟨e, rest, -, ⟨-, rfl⟩ | ⟨-, -, rfl⟩ | ⟨-, -, hexec⟩⟩ := step_eq_next h
  · rfl
  · simp
  · rfl
  · exact (exec_keeps_params hexec :)

/-! ### When a row answers a next state -/

/-- What row `i` needs of the frame buffer: a store needs its slot to exist, the completion step needs
every slot of the frame to be readable, and no other row needs anything. -/
def BufferReady (i : Instr) (s : State) : Prop :=
  match i with
  | .v1High _ | .v3High _ | .v1LowLoop _ | .v1LowEnd _ | .v3LowLoop _ | .v3LowEnd _ =>
    s.idx.toNat < Config.bufCap
  | .crcLowMatch _ => ∃ slots, readSlots s.buf 0 s.nch.toNat = .ok slots
  | _ => True

theorem storeHigh_next_iff {b : Byte} {st : FsmState} {s : State} :
    (∃ t, storeHigh b st s = .next t) ↔ s.idx.toNat < Config.bufCap := by
  simp [storeHigh_eq_next]

theorem storeLow_next_iff {b : Byte} {st : FsmState} {s : State} :
    (∃ t, storeLow b st s = .next t) ↔ s.idx.toNat < Config.bufCap := by
  simp [storeLow_eq_next]

theorem completeFrame_next_iff {s : State} :
    (∃ t, completeFrame s = .next t) ↔ ∃ slots, readSlots s.buf 0 s.nch.toNat = .ok slots := by
  simp only [completeFrame_eq_next]
  exact ⟨fun ⟨_, slots, hslots, _⟩ => ⟨slots, hslots⟩, fun ⟨slots, hslots⟩ => ⟨_, slots, hslots, rfl⟩⟩

/-- A row answers a next state exactly when the frame buffer is ready for it. -/
theorem exec_next_iff (i : Instr) (s : State) : (∃ t, exec i s = .next t) ↔ BufferReady i s := by
  cases i with
  | v1High | v3High => exact storeHigh_next_iff
  | v1LowLoop | v3LowLoop | v3LowEnd => exact storeLow_next_iff
  | v1LowEnd => exact storeLow_next_iff (s := s.setVariant v1Variant)
  | crcLowMatch => exact completeFrame_next_iff
  | _ => exact iff_of_true ⟨_, rfl⟩ trivial

/-! ### Written bytes make readable slots -/

theorem writtenBelow_mono {m : Memory} {n n' : Nat} (hn : n ≤ n') (h : WrittenBelow m n') : WrittenBelow m n :=
  fun a ha => h a (Nat.lt_of_lt_of_le ha hn)

theorem readSlot_ok_of_written {m : Memory} {k : Nat} (hk : k < Config.bufCap)
    (h : WrittenBelow m (hiAddr (k + 1))) : ∃ v, readSlot m k = .ok v := by
  obtain ⟨hi, hhi⟩ := Option.isSome_iff_exists.mp (h (hiAddr k) (by simp only [hiAddr]; omega))
  obtain ⟨lo, hlo⟩ := Option.isSome_iff_exists.mp (h (loAddr k) (by simp only [hiAddr, loAddr]; omega))
  exact ⟨_, readSlot_eq_ok.mpr ⟨hk, hi, lo, hhi, hlo, rfl⟩⟩

theorem readSlots_ok_of_written {m : Memory} {k n : Nat} (hcap : k + n ≤ Config.bufCap)
    (h : WrittenBelow m (hiAddr (k + n))) : ∃ vs, readSlots m k n = .ok vs := by
  induction n generalizing k with
  | zero => exact ⟨[], readSlots_zero m k⟩
  | succ n ih =>
    have hfirst : hiAddr (k + 1) ≤ hiAddr (k + (n + 1)) := by simp only [hiAddr]; omega
    obtain ⟨v, hv⟩ := readSlot_ok_of_written (by omega) (writtenBelow_mono hfirst h)
    have hswap : k + 1 + n = k + (n + 1) := by omega
    obtain ⟨vs, hvs⟩ := ih (k := k + 1) (hswap ▸ hcap) (hswap ▸ h)
    exact ⟨v :: vs, readSlots_succ_eq_ok.mpr ⟨v, vs, hv, hvs, rfl⟩⟩

/-! ### Progress under the invariant -/

/-- The FSM states whose byte is stored in slot `idx` (R106, R107, R110, R111). -/
def Stores (st : FsmState) : Prop :=
  st = .v1High ∨ st = .v1Low ∨ st = .v3High ∨ st = .v3Low

/-- R34: every slot index written is at most 65. -/
theorem idx_lt_bufCap_of_frameInv {s : State} (hinv : FrameInv s) (hst : Stores s.fsm) :
    s.idx.toNat < Config.bufCap := by
  simp only [Config.bufCap]
  obtain hf | hf | hf | hf := hst <;> simp only [FrameInv, hf] at hinv <;> omega

/-- R34 in `CrcLow`: the slots the completion step reads are all written in this buffer. -/
theorem readSlots_ok_of_frameInv {s : State} (hinv : FrameInv s) (hf : s.fsm = .crcLow) :
    ∃ slots, readSlots s.buf 0 s.nch.toNat = .ok slots := by
  simp only [FrameInv, hf] at hinv
  obtain ⟨hnch, hidx, hwritten⟩ := hinv
  have hle : hiAddr (0 + s.nch.toNat) ≤ hiAddr s.idx.toNat := by simp only [hiAddr]; omega
  exact readSlots_ok_of_written (by simp only [Config.bufCap]; omega) (writtenBelow_mono hle hwritten)

/-- Under R34 the frame buffer is ready for every row of the present FSM state. -/
theorem bufferReady_of_frameInv {i : Instr} {s : State} (hi : i.fsm = s.fsm) (hinv : FrameInv s) :
    BufferReady i s := by
  cases i with
  | v1High => exact idx_lt_bufCap_of_frameInv hinv (.inl hi.symm)
  | v1LowLoop | v1LowEnd => exact idx_lt_bufCap_of_frameInv hinv (.inr (.inl hi.symm))
  | v3High => exact idx_lt_bufCap_of_frameInv hinv (.inr (.inr (.inl hi.symm)))
  | v3LowLoop | v3LowEnd => exact idx_lt_bufCap_of_frameInv hinv (.inr (.inr (.inr hi.symm)))
  | crcLowMatch => exact readSlots_ok_of_frameInv hinv hi.symm
  | _ => trivial

/-- Under R34 every byte has a next state: the row it selects is one of the present FSM state's (R81). -/
theorem exec_decode_next_of_frameInv {s : State} (b : Byte) (hinv : FrameInv s) :
    ∃ t, exec (decode s.ctx b) s = .next t :=
  (exec_next_iff _ s).mpr (bufferReady_of_frameInv (Laws.RowStateEncodes.decode_fsm s.ctx b) hinv)

/-- An edge has a next state as soon as the row of its byte has one. -/
theorem edgeStep_next {e : Edge} {s : State} (h : ∃ t, exec (decode s.ctx e.inByte) s = .next t) :
    ∃ t, edgeStep e s = .next t := by
  unfold edgeStep
  split
  · exact ⟨_, rfl⟩
  · split
    · exact h
    · exact ⟨_, rfl⟩

/-- `FrameInv` says nothing of the edges still to come. -/
theorem frameInv_input {s : State} (rest : List Edge) : FrameInv { s with input := rest } ↔ FrameInv s :=
  Iff.rfl

/-- Settles O47: an offered byte selects a row of the present FSM state, and `FrameInv` has the frame
buffer ready for every such row; the other edges always have a next state. -/
theorem everyStepCompletesUnderTheInvariant : Obligations.EveryStepCompletesUnderTheInvariant := by
  rintro s ⟨-, -, -, hframe⟩
  cases hin : s.input with
  | nil => exact ⟨s, step_of_nil hin⟩
  | cons e rest =>
    rw [step_of_cons hin]
    exact edgeStep_next (exec_decode_next_of_frameInv e.inByte ((frameInv_input rest).mpr hframe))

end Sys2Proof.Scope
end

section
/-!
The layer under the family of 10_state.md: what a write adds to the three ways the statements speak of the
first bytes of the frame buffer (`WrittenBelow`, `SameBelow`, `HoldsBytes`), the slot index and the channel
count in numbers, and what the decoder says of the row it answers.
-/

namespace Sys2Proof.StateRules

open Sys2Proof.Machine Sys2Proof.Safety

/-! ### The first bytes of the frame buffer -/

theorem writtenBelow_writeByte {m : Memory} {n : Nat} (b : Byte) (h : WrittenBelow m n) :
    WrittenBelow (m.writeByte n b) (n + 1) := by
  intro a ha
  rw [Memory.readByte_writeByte]
  split
  · rfl
  · exact h a (by omega)

theorem sameBelow_mono {m m' : Memory} {n n' : Nat} (hn : n ≤ n') (h : SameBelow m m' n') : SameBelow m m' n :=
  fun a ha => h a (Nat.lt_of_lt_of_le ha hn)

theorem sameBelow_writeByte {m m' : Memory} {n : Nat} (b : Byte) (h : SameBelow m m' n) :
    SameBelow (m.writeByte n b) (m'.writeByte n b) (n + 1) := by
  intro a ha
  rw [Memory.readByte_writeByte, Memory.readByte_writeByte]
  split
  · rfl
  · exact h a (by omega)

/-- Writing the byte after `data` appends it to what the buffer holds. -/
theorem holdsBytes_writeByte {m : Memory} {data : List Byte} (b : Byte) (h : HoldsBytes m data) :
    HoldsBytes (m.writeByte data.length b) (data ++ [b]) := by
  intro a ha
  rw [Memory.readByte_writeByte]
  split
  · next heq => subst heq; simp
  · next hne =>
    have hlt : a < data.length := by
      rw [List.length_append, List.length_singleton] at ha
      omega
    rw [List.getElem_append_left hlt]
    exact h a hlt

/-! ### Slot index and channel count -/

/-- R25: below the capacity the 7-bit index does not wrap. -/
theorem idx_succ_toNat {idx : Count7} (h : idx.toNat < 66) : (idx + 1).toNat = idx.toNat + 1 := by
  rw [BitVec.toNat_add_of_lt (by simp; omega)]
  simp

/-- The slot after `idx` begins one byte after the low half of slot `idx`. -/
theorem hiAddr_idx_succ {idx : Count7} (h : idx.toNat < 66) :
    hiAddr (idx + 1).toNat = loAddr idx.toNat + 1 := by
  simp only [idx_succ_toNat h, hiAddr, loAddr]
  omega

theorem nchOfLenV1_toNat {b : Byte} (h : b.toNat ≤ 32) : (nchOfLenV1 b).toNat = b.toNat := by
  simp only [nchOfLenV1, BitVec.toNat_ofNat]
  omega

theorem nchOfLenV3_toNat {b : Byte} (h : b.toNat ≤ 68) : (nchOfLenV3 b).toNat = b.toNat - 2 := by
  simp only [nchOfLenV3, Config.v3LenOffset, BitVec.toNat_ofNat]
  omega

/-! ### The decoded row -/

/-- The registers meet the condition of the row that the decoder answers (R81). -/
theorem decode_condition (c : Ctx) (b : Byte) : (decode c b).condition c = true := by
  cases hf : c.fsm <;> simp only [decode, hf]
  case idle | v1Low | v3Low | crcLow => split <;> simp_all [Instr.condition]
  case gotStart | startV1 | startV3 | v3FuncCode => split_ifs <;> rfl
  all_goals rfl

theorem decode_fits (c : Ctx) (b : Byte) : (decode c b).Fits c :=
  ⟨(Laws.RowStateEncodes.decode_fsm c b).symm, decode_condition c b⟩

/-- Only an equal received CRC, in `CrcLow`, selects the completion row (R117). -/
theorem of_decode_eq_crcLowMatch {c : Ctx} {b b' : Byte} (h : decode c b = .crcLowMatch b') :
    c.fsm = .crcLow ∧ joinBytes c.rxhi b = c.crc := by
  have hf : c.fsm = .crcLow := by
    rw [← Laws.RowStateEncodes.decode_fsm c b, h]
    rfl
  refine ⟨hf, ?_⟩
  simp only [decode, hf] at h
  split at h
  · next heq => exact (crcEqual_iff _ _ _).mp heq
  · cases h

/-! ### Where a row goes -/

/-- The FSM state that follows row `i` (R101 to R118). -/
def destination : Instr → FsmState
  | .idleSof _ => .gotStart
  | .gotStartV1 _ => .startV1
  | .gotStartV3 _ => .startV3
  | .startV1LenOk _ | .v1LowLoop _ => .v1High
  | .v1High _ => .v1Low
  | .startV3LenOk _ | .v3LowLoop _ => .v3High
  | .v3High _ => .v3Low
  | .v3LowEnd _ => .v3FuncCode
  | .v3FuncDef _ | .v3FuncUnrec _
  | .func00 | .func01 | .func02 | .func03 | .func04 | .func05 | .funcUnrec _ => .v3LastValid
  | .v3LastValid _ => .v3ModeCmd
  | .v3ModeCmd _ => .v3SubCmd
  | .v1LowEnd _ | .v3SubCmd _ => .crcHigh
  | .crcHigh _ => .crcLow
  | .idleOther _ | .gotStartBad _ | .startV1LenBad _ | .startV3LenBad _
  | .crcLowMatch _ | .crcLowMismatch _ => .idle

theorem exec_fsm {i : Instr} {s t : State} (h : exec i s = .next t) : t.fsm = destination i := by
  cases i with
  | v1High | v3High =>
    obtain ⟨-, rfl⟩ := storeHigh_eq_next.mp h
    rfl
  | v1LowLoop | v1LowEnd | v3LowLoop | v3LowEnd =>
    obtain ⟨-, rfl⟩ := storeLow_eq_next.mp h
    rfl
  | crcLowMatch =>
    obtain ⟨slots, -, rfl⟩ := completeFrame_eq_next.mp h
    rfl
  | _ => cases h; rfl

end Sys2Proof.StateRules
end

section
/-!
What a step does outside the frame in progress (R29, R40 to R42), and where a row stops (R26, R35).

`exec_sameOutside` says that every row but the completion step leaves the parameters, the input, the
counter, the collaborators' storage and the events alone; `completeFrame_eq_next` has the one row that does
not.
-/

namespace Sys2Proof.StateRules

open Sys2Proof.Machine Sys2Proof.Safety

/-! ### Edges without a row -/

/-- Settles O5: `edgeStep` of an edge with neither `rst` nor `in_valid` answers the state it was given. -/
theorem idleEdgeChangesNothing : Obligations.IdleEdgeChangesNothing := by
  intro s b rest
  constructor
  · intro hin
    rw [step_of_cons hin]
    rfl
  · exact step_of_nil

/-! ### Where a row stops -/

theorem storeHigh_of_ge {b : Byte} {st : FsmState} {s : State} (h : 66 ≤ s.idx.toNat) :
    storeHigh b st s = .fault (.noSuchSlot s.idx.toNat) := by
  rw [storeHigh, bufWriteHi_of_ge _ _ (Nat.not_lt.mpr h)]

theorem storeLow_of_ge {b : Byte} {st : FsmState} {s : State} (h : 66 ≤ s.idx.toNat) :
    storeLow b st s = .fault (.noSuchSlot s.idx.toNat) := by
  rw [storeLow, bufWriteLo_of_ge _ _ (Nat.not_lt.mpr h)]

/-- Settles O20: each of the six rows is one of the two shared stores. -/
theorem storeBeyondTheBufferStops : Obligations.StoreBeyondTheBufferStops := by
  intro s b hidx i hi
  simp only [List.mem_cons, List.not_mem_nil, or_false] at hi
  obtain rfl | rfl | rfl | rfl | rfl | rfl := hi
  · exact storeHigh_of_ge hidx
  · exact storeLow_of_ge hidx
  · exact storeLow_of_ge (s := s.setVariant v1Variant) hidx
  · exact storeHigh_of_ge hidx
  · exact storeLow_of_ge hidx
  · exact storeLow_of_ge hidx

/-- A readable range of slots has every one of them below the capacity, with both halves written. -/
theorem written_of_readSlots {m : Memory} {n k : Nat} {slots : List Word16} (h : readSlots m 0 n = .ok slots)
    (hk : k < n) : k < Config.bufCap ∧ m.readByte (hiAddr k) ≠ none ∧ m.readByte (loAddr k) ≠ none := by
  obtain ⟨hlen, hall⟩ := readSlots_eq_ok.mp h
  have hslot := hall k (hlen ▸ hk)
  rw [Nat.zero_add] at hslot
  obtain ⟨hcap, hi, lo, hhi, hlo, -⟩ := readSlot_eq_ok.mp hslot
  simp [hcap, hhi, hlo]

/-- Settles O30: the completion step reads every slot below `nch`, so one unreadable slot stops it. -/
theorem unreadableSlotStopsTheCompletion : Obligations.UnreadableSlotStopsTheCompletion := by
  intro s b k hk hbad
  change ∃ f, completeFrame s = .fault f
  unfold completeFrame
  cases hread : readSlots s.buf 0 s.nch.toNat with
  | error f => exact ⟨f, rfl⟩
  | ok slots =>
    obtain ⟨hcap, hhi, hlo⟩ := written_of_readSlots hread hk
    obtain hge | hnone | hnone := hbad
    · exact absurd hcap (Nat.not_lt.mpr hge)
    · exact absurd hnone hhi
    · exact absurd hnone hlo

/-! ### Rows that stay inside the frame in progress -/

/-- Two states that differ at most in the FSM state and the registers of the frame in progress. -/
structure SameOutside (s t : State) : Prop where
  params : s.params = t.params
  input : s.input = t.input
  outputs : SameOutputs s t

theorem SameOutside.symm {s t : State} (h : SameOutside s t) : SameOutside t s := by
  obtain ⟨hparams, hinput, hpkt, hpulses, hswitches, hout⟩ := h
  exact ⟨hparams.symm, hinput.symm, hpkt.symm, hpulses.symm, hswitches.symm, hout.symm⟩

theorem SameOutside.trans {s t u : State} (h : SameOutside s t) (h' : SameOutside t u) : SameOutside s u := by
  obtain ⟨hparams, hinput, hpkt, hpulses, hswitches, hout⟩ := h
  obtain ⟨hparams', hinput', hpkt', hpulses', hswitches', hout'⟩ := h'
  exact ⟨hparams.trans hparams', hinput.trans hinput', hpkt.trans hpkt', hpulses.trans hpulses',
    hswitches.trans hswitches', hout.trans hout'⟩

theorem storeHigh_sameOutside {b : Byte} {st : FsmState} {s t : State} (h : storeHigh b st s = .next t) :
    SameOutside s t := by
  obtain ⟨-, rfl⟩ := storeHigh_eq_next.mp h
  exact ⟨rfl, rfl, rfl, rfl, rfl, rfl⟩

theorem storeLow_sameOutside {b : Byte} {st : FsmState} {s t : State} (h : storeLow b st s = .next t) :
    SameOutside s t := by
  obtain ⟨-, rfl⟩ := storeLow_eq_next.mp h
  exact ⟨rfl, rfl, rfl, rfl, rfl, rfl⟩

/-- R100: no row but the completion step counts, emits or touches the collaborators' storage. -/
theorem exec_sameOutside {i : Instr} {s t : State} (hi : ∀ b, i ≠ .crcLowMatch b) (h : exec i s = .next t) :
    SameOutside s t := by
  cases i with
  | crcLowMatch b => exact absurd rfl (hi b)
  | v1High | v3High => exact storeHigh_sameOutside h
  | v1LowLoop | v3LowLoop | v3LowEnd => exact storeLow_sameOutside h
  | v1LowEnd =>
    have hset : SameOutside s (s.setVariant v1Variant) := ⟨rfl, rfl, rfl, rfl, rfl, rfl⟩
    exact hset.trans (storeLow_sameOutside h)
  | _ => cases h; exact ⟨rfl, rfl, rfl, rfl, rfl, rfl⟩

/-- A byte step either stays inside the frame in progress or is a completion (R100, R117). -/
theorem byte_sameOutside_or_completes {s t : State} {b : Byte} (h : exec (decode s.ctx b) s = .next t) :
    SameOutside s t ∨
      s.fsm = .crcLow ∧ joinBytes s.rxhi b = s.crc ∧ ∃ slots,
        t = (s.countFrame.emitAll (completionEvents s slots)).goto .idle := by
  by_cases hi : ∃ b', decode s.ctx b = .crcLowMatch b'
  · obtain ⟨b', hi⟩ := hi
    obtain ⟨hf, hcrc⟩ := of_decode_eq_crcLowMatch hi
    rw [hi] at h
    obtain ⟨slots, -, ht⟩ := completeFrame_eq_next.mp h
    exact .inr ⟨hf, hcrc, slots, ht⟩
  · exact .inl (exec_sameOutside (not_exists.mp hi) h)

/-- Settles O43: a byte step that writes an output is a completion of the edge's own byte; no other edge
writes one. -/
theorem onlyCompletionsWriteOutputs : Obligations.OnlyCompletionsWriteOutputs := by
  intro s t h hnot
  obtain ⟨-, rfl⟩ | ⟨e, rest, hin, ⟨-, rfl⟩ | ⟨-, -, rfl⟩ | ⟨hrst, hvalid, hexec⟩⟩ := step_eq_next h
  · exact ⟨rfl, rfl, rfl⟩
  · exact ⟨rfl, rfl, rfl⟩
  · exact ⟨rfl, rfl, rfl⟩
  · obtain ⟨-, -, -, hpulses, hswitches, hout⟩ | ⟨hf, hcrc, -⟩ :=
      byte_sameOutside_or_completes (s := { s with input := rest }) hexec
    · exact ⟨hpulses.symm, hswitches.symm, hout.symm⟩
    · have hoffer : e = Edge.offer e.inByte := by
        obtain ⟨rst, valid, b⟩ := e
        cases hrst
        cases hvalid
        rfl
      refine absurd ⟨hf, e.inByte, rest, hoffer ▸ hin, ?_⟩ hnot
      rw [← joinBytes_toNat]
      exact congrArg BitVec.toNat hcrc

/-! ### The packet counter (R29) -/

/-- A conversion emits writes and `Valid`, never a `FrameReady` (R195). -/
theorem convert_no_frameReady (p : Params) (slots : List Word16) (v : Variant) :
    (convert p slots v).filter isFrameReady = [] := by
  have hput : ∀ lo n off, (putRange p slots lo n off).filter isFrameReady = [] := by
    intro lo n off
    rw [List.filter_eq_nil_iff]
    intro e he
    obtain ⟨k, -, -, -, -, rfl⟩ := mem_putRange.mp he
    exact Bool.false_ne_true
  have hswitch : (unpackSwitches slots).filter isFrameReady = [] := by
    rw [List.filter_eq_nil_iff]
    intro e he
    obtain ⟨i, on, rfl⟩ := mem_unpackSwitches he
    exact Bool.false_ne_true
  cases v <;>
    simp [convert, convertCh1to12, convertCh1to8and13to16, convertCh1to16, convertCh1to8and17to24,
      convertCh1to8and25to32, convertCh1to12sw64, List.filter_append, hput, hswitch, isFrameReady]

/-- A completion emits exactly one `FrameReady` (R117). -/
theorem completionEvents_one_frameReady (s : State) (slots : List Word16) :
    ((completionEvents s slots).filter isFrameReady).length = 1 := by
  rw [completionEvents, List.filter_cons_of_pos rfl, convert_no_frameReady]
  rfl

/-- Settles O41: the events of the step are those of the completion, if it is one, and none otherwise. -/
theorem packetCounterCountsFrames : Obligations.PacketCounterCountsFrames := by
  intro s t h
  obtain ⟨hin, rfl⟩ | ⟨e, rest, hin, ⟨hrst, rfl⟩ | ⟨hrst, -, rfl⟩ | ⟨hrst, -, hexec⟩⟩ := step_eq_next h
  · exact ⟨[], by simp [hin]⟩
  · exact ⟨[], by simp [hin, hrst]⟩
  · exact ⟨[], by simp [hin, hrst]⟩
  · obtain ⟨-, -, hpkt, -, -, hout⟩ | ⟨hf, -, slots, rfl⟩ :=
      byte_sameOutside_or_completes (s := { s with input := rest }) hexec
    · exact ⟨[], by simp [hin, hrst, hout.symm, hpkt.symm]⟩
    · refine ⟨completionEvents s slots, by simp [completionEvents], fun hne => absurd hf hne, ?_⟩
      simp [hin, hrst, completionEvents_one_frameReady]

/-! ### The canonical form of the frame buffer -/

theorem storeHigh_wf {b : Byte} {st : FsmState} {s t : State} (hwf : s.buf.wf = true)
    (h : storeHigh b st s = .next t) : t.buf.wf = true := by
  obtain ⟨hk, rfl⟩ := storeHigh_eq_next.mp h
  exact bufWriteHi_wf (bufWriteHi_of_lt _ b hk) hwf

theorem storeLow_wf {b : Byte} {st : FsmState} {s t : State} (hwf : s.buf.wf = true)
    (h : storeLow b st s = .next t) : t.buf.wf = true := by
  obtain ⟨hk, rfl⟩ := storeLow_eq_next.mp h
  exact bufWriteLo_wf (bufWriteLo_of_lt _ b hk) hwf

/-- Only the stores write the buffer, and a store writes inside the 66 slots (R26). -/
theorem exec_wf {i : Instr} {s t : State} (hwf : s.buf.wf = true) (h : exec i s = .next t) :
    t.buf.wf = true := by
  cases i with
  | v1High | v3High => exact storeHigh_wf hwf h
  | v1LowLoop | v3LowLoop | v3LowEnd => exact storeLow_wf hwf h
  | v1LowEnd => exact storeLow_wf (s := s.setVariant v1Variant) hwf h
  | crcLowMatch =>
    obtain ⟨slots, -, rfl⟩ := completeFrame_eq_next.mp h
    simpa using hwf
  | _ => cases h; exact hwf

/-- Settles O44: a reset empties the buffer, a byte's row keeps its form (`exec_wf`). -/
theorem everyStepKeepsTheBufferCanonical : Obligations.EveryStepKeepsTheBufferCanonical := by
  intro s t hwf h
  obtain ⟨-, rfl⟩ | ⟨e, rest, -, ⟨-, rfl⟩ | ⟨-, -, rfl⟩ | ⟨-, -, hexec⟩⟩ := step_eq_next h
  · exact hwf
  · exact Memory.wf_reset
  · exact hwf
  · exact exec_wf (s := { s with input := rest }) hwf hexec

end Sys2Proof.StateRules
end

section
/-!
The invariant `BlockInv` (R34's rows on `nch`, `idx` and the written slots): it holds at power-on and every
step keeps it.
-/

namespace Sys2Proof.StateRules

open Sys2Proof.Machine Sys2Proof.Safety

/-- Settles O45: R34 asks nothing in `Idle`. -/
theorem invariantAtReset : Obligations.InvariantAtReset :=
  ⟨Memory.wf_reset, by simp [State.reset, Config.sinkPulse0], Params.valid_built, trivial⟩

theorem frameInv_of_idle {s : State} (hf : s.fsm = .idle) : FrameInv s := by
  simp only [FrameInv, hf]

theorem writtenBelow_zero (m : Memory) : WrittenBelow m 0 :=
  fun _ ha => absurd ha (Nat.not_lt_zero _)

/-- The low byte of slot `idx` completes the slots below the next index. -/
theorem writtenBelow_storeLow {m : Memory} {idx : Count7} {b : Byte} (hcap : idx.toNat < 66)
    (h : WrittenBelow m (loAddr idx.toNat)) :
    WrittenBelow (m.writeByte (loAddr idx.toNat) b) (hiAddr (idx + 1).toNat) := by
  rw [hiAddr_idx_succ hcap]
  exact writtenBelow_writeByte b h

/-- No row adds or removes a pulse output (R42). -/
theorem exec_pulses_length {i : Instr} {s t : State} (h : exec i s = .next t) :
    t.pulses.length = s.pulses.length := by
  by_cases hi : ∃ b, i = .crcLowMatch b
  · obtain ⟨b, rfl⟩ := hi
    obtain ⟨slots, -, rfl⟩ := completeFrame_eq_next.mp h
    simp
  · rw [(exec_sameOutside (not_exists.mp hi) h).outputs.2.1]

/-- Every byte step keeps R34's rows: an accepted length puts `nch` in its range and `idx` at 0, each
channel byte writes the next byte of the buffer, and the trailer and the CRC change none of the three. -/
theorem byte_keeps_frameInv {s t : State} {b : Byte} (hinv : FrameInv s)
    (h : exec (decode s.ctx b) s = .next t) : FrameInv t := by
  obtain
    -- Idle, GotStart
    ⟨-, -, rfl⟩ | ⟨-, -, rfl⟩ | ⟨-, -, rfl⟩ | ⟨-, -, rfl⟩ | ⟨-, -, -, rfl⟩ |
    -- StartV1, StartV3
    ⟨-, hmin, hmax, rfl⟩ | ⟨-, -, rfl⟩ | ⟨-, -, hmax, rfl⟩ | ⟨-, -, rfl⟩ |
    -- V1High, V3High, V1Low, V3Low
    ⟨hf, -, rfl⟩ | ⟨hf, -, rfl⟩ |
    ⟨hf, hcap, hmore, rfl⟩ | ⟨hf, hcap, hlast, rfl⟩ | ⟨hf, hcap, hmore, rfl⟩ | ⟨hf, hcap, hlast, rfl⟩ |
    -- the V3 trailer, CrcHigh, CrcLow
    ⟨hf, rfl⟩ | ⟨hf, rfl⟩ | ⟨hf, rfl⟩ | ⟨hf, rfl⟩ | ⟨hf, rfl⟩ |
    ⟨-, -, slots, -, rfl⟩ | ⟨-, -, rfl⟩ := byte_cases h
  · -- IDLE.SOF
    trivial
  · -- IDLE.OTHER
    trivial
  · -- GOTSTART.V1
    trivial
  · -- GOTSTART.V3
    trivial
  · -- GOTSTART.BAD
    trivial
  · -- STARTV1.LEN_OK
    have hnch := nchOfLenV1_toNat hmax
    exact ⟨hnch ▸ hmin, hnch ▸ hmax, by simp [hnch]; omega, writtenBelow_zero _⟩
  · -- STARTV1.LEN_BAD
    trivial
  · -- STARTV3.LEN_OK
    have hnch := nchOfLenV3_toNat hmax
    exact ⟨by simp [hnch]; omega, by simp, writtenBelow_zero _⟩
  · -- STARTV3.LEN_BAD
    trivial
  · -- V1HIGH
    simp only [FrameInv, hf] at hinv
    obtain ⟨hmin, hmax, hlt, hwritten⟩ := hinv
    exact ⟨hmin, hmax, hlt, writtenBelow_writeByte b hwritten⟩
  · -- V3HIGH
    simp only [FrameInv, hf] at hinv
    obtain ⟨hmax, hlt, hwritten⟩ := hinv
    exact ⟨hmax, hlt, writtenBelow_writeByte b hwritten⟩
  · -- V1LOW.LOOP
    simp only [FrameInv, hf] at hinv
    obtain ⟨hmin, hmax, -, hwritten⟩ := hinv
    have hidx := idx_succ_toNat hcap
    exact ⟨hmin, hmax, hidx ▸ hmore, writtenBelow_storeLow hcap hwritten⟩
  · -- V1LOW.END
    simp only [FrameInv, hf] at hinv
    obtain ⟨hmin, hmax, hlt, hwritten⟩ := hinv
    have hidx := idx_succ_toNat hcap
    exact ⟨by simp only; omega, by simp only; omega, writtenBelow_storeLow hcap hwritten⟩
  · -- V3LOW.LOOP
    simp only [FrameInv, hf] at hinv
    obtain ⟨hmax, -, hwritten⟩ := hinv
    have hidx := idx_succ_toNat hcap
    exact ⟨hmax, by simp only; omega, writtenBelow_storeLow hcap hwritten⟩
  · -- V3LOW.END
    simp only [FrameInv, hf] at hinv
    obtain ⟨hmax, hlt, hwritten⟩ := hinv
    have hidx := idx_succ_toNat hcap
    exact ⟨hmax, by simp only; omega, writtenBelow_storeLow hcap hwritten⟩
  · -- V3FUNC
    simpa only [FrameInv, hf] using hinv
  · -- V3LASTVALID
    simpa only [FrameInv, hf] using hinv
  · -- V3MODECMD
    simpa only [FrameInv, hf] using hinv
  · -- V3SUBCMD
    simpa only [FrameInv, hf] using hinv
  · -- CRCHIGH
    simpa only [FrameInv, hf] using hinv
  · -- CRCLOW.MATCH
    exact frameInv_of_idle rfl
  · -- CRCLOW.MISMATCH
    trivial

theorem byte_keeps_blockInv {s t : State} {b : Byte} (hinv : BlockInv s)
    (h : exec (decode s.ctx b) s = .next t) : BlockInv t := by
  obtain ⟨hbuf, hpulses, hvalid, hframe⟩ := hinv
  have hparams : t.params = s.params := Scope.exec_keeps_params h
  refine ⟨exec_wf hbuf h, ?_, hparams ▸ hvalid, byte_keeps_frameInv hframe h⟩
  rw [exec_pulses_length h, hparams, hpulses]

/-- Settles O46: a reset leaves `Idle`, of which R34 asks nothing, an edge without a byte changes nothing,
and a byte's row keeps each part of `BlockInv` (`byte_keeps_blockInv`). -/
theorem everyStepKeepsTheInvariant : Obligations.EveryStepKeepsTheInvariant := by
  intro s t hinv h
  obtain ⟨-, rfl⟩ | ⟨e, rest, -, ⟨-, rfl⟩ | ⟨-, -, rfl⟩ | ⟨-, -, hexec⟩⟩ := step_eq_next h
  · exact hinv
  · obtain ⟨-, hpulses, hvalid, -⟩ := hinv
    exact ⟨Memory.wf_reset, hpulses, hvalid, trivial⟩
  · exact hinv
  · exact byte_keeps_blockInv (s := { s with input := rest }) hinv hexec

end Sys2Proof.StateRules
end

section
/-!
Noninterference (R30, R33, R35): a step of two indistinguishable states is a simulation. The two decode the
byte to the same row, the frame buffer of both is ready for it, and the row keeps the live part of the frame
equal and emits the same events in both. Runs follow by induction on the number of steps.
-/

namespace Sys2Proof.StateRules

open Sys2Proof.Machine Sys2Proof.Safety

theorem frameLive_of_idle {s t : State} (hf : s.fsm = .idle) : FrameLive s t := by
  simp only [FrameLive, hf]

theorem sameBelow_zero (m m' : Memory) : SameBelow m m' 0 :=
  fun _ ha => absurd ha (Nat.not_lt_zero _)

/-- The low byte of slot `idx` makes the buffers agree on every slot below the next index. -/
theorem sameBelow_storeLow {m m' : Memory} {idx : Count7} {b : Byte} (hcap : idx.toNat < 66)
    (h : SameBelow m m' (loAddr idx.toNat)) :
    SameBelow (m.writeByte (loAddr idx.toNat) b) (m'.writeByte (loAddr idx.toNat) b)
      (hiAddr (idx + 1).toNat) := by
  rw [hiAddr_idx_succ hcap]
  exact sameBelow_writeByte b h

/-- After the last low byte (`nch` is at most the next index) they agree on every slot of the frame. -/
theorem sameBelow_lastLow {m m' : Memory} {idx nch : Count7} {b : Byte} (hcap : idx.toNat < 66)
    (hlast : nch.toNat ≤ idx.toNat + 1) (h : SameBelow m m' (loAddr idx.toNat)) :
    SameBelow (m.writeByte (loAddr idx.toNat) b) (m'.writeByte (loAddr idx.toNat) b) (hiAddr nch.toNat) := by
  refine sameBelow_mono ?_ (sameBelow_storeLow hcap h)
  rw [idx_succ_toNat hcap]
  exact Nat.mul_le_mul_left 2 hlast

theorem nch_le_of_last {idx nch : Count7} (h : (!morePairs idx nch) = true) : nch.toNat ≤ idx.toNat + 1 := by
  rw [Bool.not_eq_true', ← Bool.not_eq_true, morePairs_iff] at h
  omega

/-! ### The same row, and both ready for it -/

/-- The registers that select the row of a byte are live in the states where they do (R81, R119). -/
theorem decode_eq_of_frameLive {s t : State} (b : Byte) (hparams : s.params = t.params)
    (hfsm : s.fsm = t.fsm) (hlive : FrameLive s t) : decode s.ctx b = decode t.ctx b := by
  cases hf : s.fsm <;> have hf' := hfsm.symm.trans hf <;> simp only [FrameLive, hf] at hlive <;>
    simp only [decode, State.ctx_fsm, hf, hf']
  case idle =>
    have hmarker : s.ctx.startMarker = t.ctx.startMarker := congrArg Params.startMarker hparams
    rw [hmarker]
  case v1Low | v3Low =>
    obtain ⟨-, hnch, hidx, -⟩ := hlive
    rw [State.ctx_idx, State.ctx_nch, hidx, hnch, State.ctx_idx, State.ctx_nch]
  case crcLow =>
    obtain ⟨hcrc, -, -, hrxhi, -⟩ := hlive
    rw [State.ctx_crc, State.ctx_rxhi, hcrc, hrxhi, State.ctx_crc, State.ctx_rxhi]

theorem idx_eq_of_frameLive {s t : State} (hst : Scope.Stores s.fsm) (hlive : FrameLive s t) :
    s.idx = t.idx := by
  obtain hf | hf | hf | hf := hst <;>
  · simp only [FrameLive, hf] at hlive
    obtain ⟨-, -, hidx, -⟩ := hlive
    exact hidx

/-- The slots that a completion reads are live in `CrcLow`. -/
theorem readSlots_eq_of_frameLive {s t : State} (hf : s.fsm = .crcLow) (hlive : FrameLive s t) :
    readSlots s.buf 0 s.nch.toNat = readSlots t.buf 0 t.nch.toNat := by
  simp only [FrameLive, hf] at hlive
  obtain ⟨-, hnch, -, -, hbuf⟩ := hlive
  rw [← hnch]
  exact readSlots_congr fun a ha => hbuf a (by rwa [Nat.zero_add] at ha)

theorem bufferReady_of_frameLive {i : Instr} {s t : State} (hi : i.fsm = s.fsm) (hlive : FrameLive s t)
    (h : Scope.BufferReady i s) : Scope.BufferReady i t := by
  have hstore (hst : Scope.Stores s.fsm) (h : s.idx.toNat < Config.bufCap) : t.idx.toNat < Config.bufCap :=
    idx_eq_of_frameLive hst hlive ▸ h
  cases i with
  | v1High => exact hstore (.inl hi.symm) h
  | v1LowLoop | v1LowEnd => exact hstore (.inr (.inl hi.symm)) h
  | v3High => exact hstore (.inr (.inr (.inl hi.symm))) h
  | v3LowLoop | v3LowEnd => exact hstore (.inr (.inr (.inr hi.symm))) h
  | crcLowMatch =>
    obtain ⟨slots, hslots⟩ := h
    exact ⟨slots, readSlots_eq_of_frameLive hi.symm hlive ▸ hslots⟩
  | _ => trivial

/-! ### What the row leaves -/

/-- Emitting the same events keeps two states alike outside. -/
theorem emitAll_sameOutside {s t : State} (es : List Event) (h : SameOutside s t) :
    SameOutside (s.emitAll es) (t.emitAll es) := by
  induction es generalizing s t with
  | nil => exact h
  | cons e es ih =>
    obtain ⟨hparams, hinput, hpkt, hpulses, hswitches, hout⟩ := h
    refine ih ⟨?_, ?_, ?_, ?_, ?_, ?_⟩
    · simpa using hparams
    · simpa using hinput
    · simpa using hpkt
    · cases e <;> simp [hpulses]
    · cases e <;> simp [hswitches]
    · simp [hout]

/-- R117, R195: a completion's events depend on the live part of the frame and the parameters alone. -/
theorem completeFrame_sameOutside {s t s' t' : State} (hf : s.fsm = .crcLow) (hlive : FrameLive s t)
    (hout : SameOutside s t) (hs : completeFrame s = .next s') (ht : completeFrame t = .next t') :
    SameOutside s' t' := by
  obtain ⟨slots, hslots, rfl⟩ := completeFrame_eq_next.mp hs
  obtain ⟨slots', hslots', rfl⟩ := completeFrame_eq_next.mp ht
  rw [readSlots_eq_of_frameLive hf hlive, hslots'] at hslots
  cases hslots
  simp only [FrameLive, hf] at hlive
  obtain ⟨-, hnch, hvariant, -, -⟩ := hlive
  have hevents : completionEvents s slots = completionEvents t slots := by
    simp only [completionEvents, hnch, hvariant, hout.params]
  rw [hevents]
  obtain ⟨hparams, hinput, hpkt, hpulses, hswitches, hevts⟩ := hout
  have hcount : SameOutside s.countFrame t.countFrame :=
    ⟨hparams, hinput, congrArg (· + 1) hpkt, hpulses, hswitches, hevts⟩
  obtain ⟨hparams, hinput, hrest⟩ := emitAll_sameOutside (completionEvents t slots) hcount
  exact ⟨hparams, hinput, hrest⟩

theorem exec_congr_sameOutside {i : Instr} {s t s' t' : State} (hi : i.fsm = s.fsm) (hlive : FrameLive s t)
    (hout : SameOutside s t) (hs : exec i s = .next s') (ht : exec i t = .next t') : SameOutside s' t' := by
  by_cases hmatch : ∃ b, i = .crcLowMatch b
  · obtain ⟨b, rfl⟩ := hmatch
    exact completeFrame_sameOutside hi.symm hlive hout hs ht
  · have hquiet := not_exists.mp hmatch
    exact (exec_sameOutside hquiet hs).symm.trans (hout.trans (exec_sameOutside hquiet ht))

/-- A row that fits reads of the frame only what is live, so what it leaves of the frame is live-equal. -/
theorem exec_frameLive {i : Instr} {s t s' t' : State} (hfit : i.Fits s.ctx) (hlive : FrameLive s t)
    (hs : exec i s = .next s') (ht : exec i t = .next t') : FrameLive s' t' := by
  obtain ⟨hf, hcond⟩ := hfit
  rw [State.ctx_fsm] at hf
  have hfold (b : Byte) (hcrc : s.crc = t.crc) : crcUpdate s.crc b = crcUpdate t.crc b :=
    congrArg (crcUpdate · b) hcrc
  cases i with
  | idleSof => cases hs; cases ht; exact rfl
  | idleOther | gotStartBad | startV1LenBad | startV3LenBad | crcLowMismatch => cases hs; trivial
  | gotStartV1 | gotStartV3 =>
    simp only [FrameLive, hf, Instr.fsm] at hlive
    cases hs; cases ht
    exact hfold _ hlive
  | startV1LenOk b | startV3LenOk b =>
    simp only [FrameLive, hf, Instr.fsm] at hlive
    obtain rfl := acceptLength_eq_next.mp hs
    obtain rfl := acceptLength_eq_next.mp ht
    exact ⟨hfold b hlive, by simp, by simp, sameBelow_zero _ _⟩
  | v1High b | v3High b =>
    simp only [FrameLive, hf, Instr.fsm] at hlive
    obtain ⟨hcrc, hnch, hidx, hbuf⟩ := hlive
    obtain ⟨-, rfl⟩ := storeHigh_eq_next.mp hs
    obtain ⟨-, rfl⟩ := storeHigh_eq_next.mp ht
    rw [← hidx]
    exact ⟨hfold b hcrc, hnch, hidx, sameBelow_writeByte b hbuf⟩
  | v1LowLoop b | v3LowLoop b =>
    simp only [FrameLive, hf, Instr.fsm] at hlive
    obtain ⟨hcrc, hnch, hidx, hbuf⟩ := hlive
    obtain ⟨hcap, rfl⟩ := storeLow_eq_next.mp hs
    obtain ⟨-, rfl⟩ := storeLow_eq_next.mp ht
    rw [← hidx]
    exact ⟨hfold b hcrc, hnch, congrArg (· + 1) hidx, sameBelow_storeLow hcap hbuf⟩
  | v1LowEnd b =>
    simp only [FrameLive, hf, Instr.fsm] at hlive
    obtain ⟨hcrc, hnch, hidx, hbuf⟩ := hlive
    obtain ⟨hcap, rfl⟩ := storeLow_eq_next.mp hs
    obtain ⟨-, rfl⟩ := storeLow_eq_next.mp ht
    simp only [State.setVariant_idx, State.setVariant_buf] at hcap ⊢
    rw [← hidx]
    exact ⟨hfold b hcrc, hnch, by simp, sameBelow_lastLow hcap (nch_le_of_last hcond) hbuf⟩
  | v3LowEnd b =>
    simp only [FrameLive, hf, Instr.fsm] at hlive
    obtain ⟨hcrc, hnch, hidx, hbuf⟩ := hlive
    obtain ⟨hcap, rfl⟩ := storeLow_eq_next.mp hs
    obtain ⟨-, rfl⟩ := storeLow_eq_next.mp ht
    rw [← hidx]
    exact ⟨hfold b hcrc, hnch, sameBelow_lastLow hcap (nch_le_of_last hcond) hbuf⟩
  | v3FuncDef | v3FuncUnrec | func00 | func01 | func02 | func03 | func04 | func05 | funcUnrec =>
    simp only [FrameLive, hf, Instr.fsm] at hlive
    obtain ⟨hcrc, hnch, hbuf⟩ := hlive
    obtain rfl := functionStep_eq_next.mp hs
    obtain rfl := functionStep_eq_next.mp ht
    exact ⟨hfold _ hcrc, hnch, by simp, hbuf⟩
  | v3LastValid b | v3ModeCmd b | v3SubCmd b =>
    simp only [FrameLive, hf, Instr.fsm] at hlive
    obtain ⟨hcrc, hnch, hvariant, hbuf⟩ := hlive
    cases hs; cases ht
    exact ⟨hfold b hcrc, hnch, hvariant, hbuf⟩
  | crcHigh =>
    simp only [FrameLive, hf, Instr.fsm] at hlive
    obtain ⟨hcrc, hnch, hvariant, hbuf⟩ := hlive
    cases hs; cases ht
    exact ⟨hcrc, hnch, hvariant, rfl, hbuf⟩
  | crcLowMatch => exact frameLive_of_idle (exec_fsm hs)

/-! ### The step and the run -/

theorem exec_indistinguishable {i : Instr} {s t s' : State} (hfit : i.Fits s.ctx)
    (h : Indistinguishable s t) (hs : exec i s = .next s') :
    ∃ t', exec i t = .next t' ∧ Indistinguishable s' t' := by
  obtain ⟨hparams, -, hinput, houtputs, hlive⟩ := h
  have hi : i.fsm = s.fsm := hfit.1.symm
  have hready : Scope.BufferReady i s := (Scope.exec_next_iff i s).mp ⟨s', hs⟩
  obtain ⟨t', ht⟩ := (Scope.exec_next_iff i t).mpr (bufferReady_of_frameLive hi hlive hready)
  obtain ⟨hparams', hinput', houtputs'⟩ :=
    exec_congr_sameOutside hi hlive ⟨hparams, hinput, houtputs⟩ hs ht
  exact ⟨t', ht, hparams', (exec_fsm hs).trans (exec_fsm ht).symm, hinput', houtputs',
    exec_frameLive hfit hlive hs ht⟩

theorem byte_indistinguishable {s t s' : State} {b : Byte} (h : Indistinguishable s t)
    (hs : exec (decode s.ctx b) s = .next s') :
    ∃ t', exec (decode t.ctx b) t = .next t' ∧ Indistinguishable s' t' := by
  have ⟨hparams, hfsm, _, _, hlive⟩ := h
  rw [← decode_eq_of_frameLive b hparams hfsm hlive]
  exact exec_indistinguishable (decode_fits _ _) h hs

theorem edgeStep_indistinguishable {e : Edge} {s t s' : State} (h : Indistinguishable s t)
    (hs : edgeStep e s = .next s') : ∃ t', edgeStep e t = .next t' ∧ Indistinguishable s' t' := by
  unfold edgeStep at hs ⊢
  split at hs
  · next hrst =>
    cases hs
    rw [if_pos hrst]
    obtain ⟨hparams, -, hinput, ⟨-, hpulses, hswitches, hout⟩, -⟩ := h
    exact ⟨_, rfl, hparams, rfl, hinput, ⟨rfl, hpulses, hswitches, hout⟩, trivial⟩
  · next hrst =>
    rw [if_neg hrst]
    split at hs
    · next hvalid =>
      rw [if_pos hvalid]
      exact byte_indistinguishable h hs
    · next hvalid =>
      cases hs
      rw [if_neg hvalid]
      exact ⟨t, rfl, h⟩

/-- Settles O49: the two states take the same edge; a byte selects the same row in both, and the row is a
simulation (`exec_indistinguishable`). -/
theorem deadStateReachesNoOutput : Obligations.DeadStateReachesNoOutput := by
  intro s t s' h hs
  have ⟨hparams, hfsm, hinput, houtputs, hlive⟩ := h
  cases hin : s.input with
  | nil =>
    rw [step_of_nil hin] at hs
    cases hs
    exact ⟨t, step_of_nil (hinput ▸ hin), h⟩
  | cons e rest =>
    rw [step_of_cons hin] at hs
    rw [step_of_cons (hinput ▸ hin)]
    have hrest : Indistinguishable { s with input := rest } { t with input := rest } :=
      ⟨hparams, hfsm, rfl, houtputs, hlive⟩
    exact edgeStep_indistinguishable hrest hs

theorem runSteps_indistinguishable {n : Nat} {s t s' : State} (h : Indistinguishable s t)
    (hs : runSteps n s = .next s') : ∃ t', runSteps n t = .next t' ∧ Indistinguishable s' t' := by
  induction n generalizing s t with
  | zero =>
    cases hs
    exact ⟨t, rfl, h⟩
  | succ n ih =>
    simp only [runSteps] at hs ⊢
    cases hstep : step s with
    | next u =>
      rw [hstep] at hs
      obtain ⟨u', hstep', hu⟩ := deadStateReachesNoOutput s t u h hstep
      rw [hstep']
      exact ih hu hs
    | fault f => rw [hstep] at hs; cases hs
    | refused r => rw [hstep] at hs; cases hs

/-- Settles O50: in `Idle` no part of the frame is live, so the two states start indistinguishable. -/
theorem resetValuesAreUnobservable : Obligations.ResetValuesAreUnobservable := by
  intro s crc nch idx m v rxhi n s' hidle hrun
  have hstart : Indistinguishable s
      { s with crc := crc, nch := nch, idx := idx, buf := m, variant := v, rxhi := rxhi } :=
    ⟨rfl, rfl, rfl, ⟨rfl, rfl, rfl, rfl⟩, frameLive_of_idle hidle⟩
  obtain ⟨t', hrun', -, hfsm, -, houtputs, -⟩ := runSteps_indistinguishable hstart hrun
  exact ⟨t', hrun', houtputs, hfsm⟩

end Sys2Proof.StateRules
end

section
/-!
Every row of R34 over the bytes of the frame in progress: `FrameSoFar s fr` becomes
`FrameSoFar t (frameAfter s fr)`. A stored byte extends the data of `InV1` or `InV3`, a trailer byte the
trailer of `InV3`; what is left of `FrameSoFar` are ranges.
-/

namespace Sys2Proof.StateRules

open Sys2Proof.Machine Sys2Proof.Safety

/-! ### The bytes of the frame after a byte step -/

theorem versionByte_of_verV1 {b : Byte} (h : b.toNat % 16 = 1) : b = versionByte (highNibble b) Config.verV1 := by
  rw [← (versionNibble_eq_verV1 b).mpr h, versionByte_nibbles]

theorem versionByte_of_verV3 {b : Byte} (h : b.toNat % 16 = 3) : b = versionByte (highNibble b) Config.verV3 := by
  rw [← (versionNibble_eq_verV3 b).mpr h, versionByte_nibbles]

/-- R119's table is where the decoded row goes. -/
theorem destination_decode (c : Ctx) (b : Byte) : destination (decode c b) = nextFsm c b := by
  cases hf : c.fsm <;> simp only [decode, nextFsm, hf]
  case idle => split <;> rfl
  case gotStart =>
    simp only [versionNibble_eq_verV1, versionNibble_eq_verV3]
    split_ifs <;> rfl
  case startV1 => simp only [lenOkV1_iff]; split <;> rfl
  case startV3 => simp only [lenOkV3_iff]; split <;> rfl
  case v1Low | v3Low => simp only [morePairs_iff]; split <;> rfl
  case v3FuncCode | crcLow => split <;> rfl
  all_goals rfl

/-- `frameAfter` of a byte step, in terms of the FSM state it reaches. -/
def frameAfterByte (s t : State) (b : Byte) (fr : List Byte) : List Byte :=
  if t.fsm = .idle then [] else if s.fsm = .crcHigh then fr else fr ++ [b]

theorem frameAfter_of_byte {s t : State} {e : Edge} {rest : List Edge} (fr : List Byte) (hin : s.input = e :: rest)
    (hrst : e.rst = false) (hvalid : e.inValid = true)
    (h : exec (decode s.ctx e.inByte) { s with input := rest } = .next t) :
    frameAfter s fr = frameAfterByte s t e.inByte fr := by
  have hfsm : t.fsm = nextFsm s.ctx e.inByte := (exec_fsm h).trans (destination_decode _ _)
  simp only [frameAfter, frameAfterByte, hin, hrst, hvalid, hfsm, Bool.false_eq_true, if_false, if_true]

theorem crc16_append (fr : List Byte) (b : Byte) : crc16 (fr ++ [b]) = crcUpdate (crc16 fr) b := by
  rw [crc16, crc16, List.foldl_append, List.foldl_cons, List.foldl_nil]

theorem frameAfter_of_nil {s : State} (fr : List Byte) (hin : s.input = []) : frameAfter s fr = fr := by
  simp only [frameAfter, hin]

/-! ### Extending the frame by a byte -/

theorem holdsBytes_nil (m : Memory) : HoldsBytes m [] :=
  fun _ ha => absurd ha (Nat.not_lt_zero _)

/-- The byte stored after `data` extends the data of a V1 frame. -/
theorem inV1_store {s t : State} {fr : List Byte} {extra extra' : Nat} {b : Byte} (h : InV1 s fr extra)
    (hparams : t.params = s.params) (hnch : t.nch = s.nch)
    (hbuf : t.buf = s.buf.writeByte (2 * s.idx.toNat + extra) b)
    (hnext : 2 * t.idx.toNat + extra' = 2 * s.idx.toNat + extra + 1) : InV1 t (fr ++ [b]) extra' := by
  obtain ⟨hi, len, data, rfl, hmin, hmax, hlen, hdata, hold⟩ := h
  refine ⟨hi, len, data ++ [b], by simp [hparams], hmin, hmax, hnch ▸ hlen, by simp; omega, ?_⟩
  rw [hbuf, ← hdata]
  exact holdsBytes_writeByte b hold

theorem inV3_store {s t : State} {fr : List Byte} {extra extra' : Nat} {b : Byte} (h : InV3 s fr extra [])
    (hparams : t.params = s.params) (hnch : t.nch = s.nch)
    (hbuf : t.buf = s.buf.writeByte (2 * s.idx.toNat + extra) b)
    (hnext : 2 * t.idx.toNat + extra' = 2 * s.idx.toNat + extra + 1) : InV3 t (fr ++ [b]) extra' [] := by
  obtain ⟨hi, len, data, rfl, hmin, hmax, hlen, hdata, hold⟩ := h
  refine ⟨hi, len, data ++ [b], by simp [hparams], hmin, hmax, hnch ▸ hlen, by simp; omega, ?_⟩
  rw [hbuf, ← hdata]
  exact holdsBytes_writeByte b hold

/-- A trailer byte is stored nowhere and extends the trailer. -/
theorem inV3_trailer {s : State} {fr trailer : List Byte} {extra : Nat} (h : InV3 s fr extra trailer) (b : Byte) :
    InV3 s (fr ++ [b]) extra (trailer ++ [b]) := by
  obtain ⟨hi, len, data, rfl, hmin, hmax, hlen, hdata, hold⟩ := h
  exact ⟨hi, len, data, by simp, hmin, hmax, hlen, hdata, hold⟩

/-! ### The step -/

theorem frameSoFar_of_idle {s t : State} (b : Byte) (fr : List Byte) (hf : t.fsm = .idle) :
    FrameSoFar t (frameAfterByte s t b fr) := by
  simp [FrameSoFar, frameAfterByte, hf]

theorem frameAfterByte_eq_append {s t : State} {b : Byte} {fr : List Byte} (ht : t.fsm ≠ .idle)
    (hs : s.fsm ≠ .crcHigh) : frameAfterByte s t b fr = fr ++ [b] := by
  rw [frameAfterByte, if_neg ht, if_neg hs]

/-- R116: the CRC's high byte is no byte of the frame and changes nothing that R34 speaks of. -/
theorem frameSoFar_of_crcHigh {s t : State} {b : Byte} {fr : List Byte} (hf : s.fsm = .crcHigh)
    (h : FrameSoFar s fr) (hexec : exec (decode s.ctx b) s = .next t) :
    FrameSoFar t (frameAfterByte s t b fr) := by
  obtain ⟨hcrc, hrow⟩ := h
  simp only [decode, State.ctx_fsm, hf] at hexec hrow
  cases hexec
  have hsame : frameAfterByte s ((s.setRxhi b).goto .crcLow) b fr = fr := by simp [frameAfterByte, hf]
  rw [hsame]
  exact ⟨fun _ => hcrc (by simp [hf]), hrow⟩

/-- Every byte step keeps all rows of R34: the start, version and length bytes begin a frame, each channel
byte is stored behind the ones before it, and the trailer bytes follow. -/
theorem byte_keeps_frameSoFar {s t : State} {b : Byte} {fr : List Byte} (h : FrameSoFar s fr)
    (hexec : exec (decode s.ctx b) s = .next t) : FrameSoFar t (frameAfterByte s t b fr) := by
  obtain ⟨hcrc, hrow⟩ := h
  have hfold (hf : s.fsm ≠ .idle) : crcUpdate s.crc b = crc16 (fr ++ [b]) := by
    rw [crc16_append, hcrc hf]
  by_cases hidle : t.fsm = .idle
  · exact frameSoFar_of_idle b fr hidle
  by_cases hhigh : s.fsm = .crcHigh
  · exact frameSoFar_of_crcHigh hhigh ⟨hcrc, hrow⟩ hexec
  rw [frameAfterByte_eq_append hidle hhigh]
  obtain
    -- Idle, GotStart
    ⟨hf, hb, rfl⟩ | ⟨-, -, rfl⟩ | ⟨hf, hb, rfl⟩ | ⟨hf, hb, rfl⟩ | ⟨-, -, -, rfl⟩ |
    -- StartV1, StartV3
    ⟨hf, hmin, hmax, rfl⟩ | ⟨-, -, rfl⟩ | ⟨hf, hmin, hmax, rfl⟩ | ⟨-, -, rfl⟩ |
    -- V1High, V3High, V1Low, V3Low
    ⟨hf, -, rfl⟩ | ⟨hf, -, rfl⟩ |
    ⟨hf, hcap, hmore, rfl⟩ | ⟨hf, hcap, hlast, rfl⟩ | ⟨hf, hcap, hmore, rfl⟩ | ⟨hf, hcap, hlast, rfl⟩ |
    -- the V3 trailer, CrcHigh, CrcLow
    ⟨hf, rfl⟩ | ⟨hf, rfl⟩ | ⟨hf, rfl⟩ | ⟨hf, rfl⟩ | ⟨hf, rfl⟩ |
    ⟨-, -, slots, -, rfl⟩ | ⟨-, -, rfl⟩ := byte_cases hexec
  · -- IDLE.SOF
    simp only [hf] at hrow
    subst hrow hb
    exact ⟨fun _ => rfl, rfl⟩
  · -- IDLE.OTHER
    exact absurd rfl hidle
  · -- GOTSTART.V1
    simp only [hf] at hrow
    subst hrow
    exact ⟨fun _ => hfold (by simp [hf]), highNibble b, by rw [← versionByte_of_verV1 hb]; rfl⟩
  · -- GOTSTART.V3
    simp only [hf] at hrow
    subst hrow
    exact ⟨fun _ => hfold (by simp [hf]), highNibble b, by rw [← versionByte_of_verV3 hb]; rfl⟩
  · -- GOTSTART.BAD
    exact absurd rfl hidle
  · -- STARTV1.LEN_OK
    simp only [hf] at hrow
    obtain ⟨hi, rfl⟩ := hrow
    have hnch := nchOfLenV1_toNat hmax
    exact ⟨fun _ => hfold (by simp [hf]), ⟨hi, b, [], rfl, hmin, hmax, hnch, by simp, holdsBytes_nil _⟩,
      by simp [hnch]; omega⟩
  · -- STARTV1.LEN_BAD
    exact absurd rfl hidle
  · -- STARTV3.LEN_OK
    simp only [hf] at hrow
    obtain ⟨hi, rfl⟩ := hrow
    have hnch := nchOfLenV3_toNat hmax
    exact ⟨fun _ => hfold (by simp [hf]), ⟨hi, b, [], rfl, hmin, hmax, hnch, by simp, holdsBytes_nil _⟩,
      by simp⟩
  · -- STARTV3.LEN_BAD
    exact absurd rfl hidle
  · -- V1HIGH
    simp only [hf] at hrow
    obtain ⟨hframe, hlt⟩ := hrow
    exact ⟨fun _ => hfold (by simp [hf]), inV1_store hframe rfl rfl rfl rfl, hlt⟩
  · -- V3HIGH
    simp only [hf] at hrow
    obtain ⟨hframe, hlt⟩ := hrow
    exact ⟨fun _ => hfold (by simp [hf]), inV3_store hframe rfl rfl rfl rfl, hlt⟩
  · -- V1LOW.LOOP
    simp only [hf] at hrow
    obtain ⟨hframe, -⟩ := hrow
    have hidx := idx_succ_toNat hcap
    exact ⟨fun _ => hfold (by simp [hf]), inV1_store hframe rfl rfl rfl (by simp only; omega), by simp only; omega⟩
  · -- V1LOW.END
    simp only [hf] at hrow
    obtain ⟨hframe, hlt⟩ := hrow
    have hidx := idx_succ_toNat hcap
    exact ⟨fun _ => hfold (by simp [hf]),
      .inl ⟨inV1_store hframe rfl rfl rfl (by simp only; omega), by simp only; omega, rfl⟩⟩
  · -- V3LOW.LOOP
    simp only [hf] at hrow
    obtain ⟨hframe, -⟩ := hrow
    have hidx := idx_succ_toNat hcap
    exact ⟨fun _ => hfold (by simp [hf]), inV3_store hframe rfl rfl rfl (by simp only; omega), by simp only; omega⟩
  · -- V3LOW.END
    simp only [hf] at hrow
    obtain ⟨hframe, hlt⟩ := hrow
    have hidx := idx_succ_toNat hcap
    exact ⟨fun _ => hfold (by simp [hf]), inV3_store hframe rfl rfl rfl (by simp only; omega), by simp only; omega⟩
  · -- V3FUNC
    simp only [hf] at hrow
    obtain ⟨hframe, hidx⟩ := hrow
    exact ⟨fun _ => hfold (by simp [hf]), b, inV3_trailer hframe b, hidx, rfl⟩
  · -- V3LASTVALID
    simp only [hf] at hrow
    obtain ⟨f, hframe, hidx, hvariant⟩ := hrow
    exact ⟨fun _ => hfold (by simp [hf]), f, b, inV3_trailer hframe b, hidx, hvariant⟩
  · -- V3MODECMD
    simp only [hf] at hrow
    obtain ⟨f, x, hframe, hidx, hvariant⟩ := hrow
    exact ⟨fun _ => hfold (by simp [hf]), f, x, b, inV3_trailer hframe b, hidx, hvariant⟩
  · -- V3SUBCMD
    simp only [hf] at hrow
    obtain ⟨f, x, y, hframe, hidx, hvariant⟩ := hrow
    exact ⟨fun _ => hfold (by simp [hf]), .inr ⟨f, x, y, b, inV3_trailer hframe b, hidx, hvariant⟩⟩
  · -- CRCHIGH
    exact absurd hf hhigh
  · -- CRCLOW.MATCH
    exact absurd rfl hidle
  · -- CRCLOW.MISMATCH
    exact absurd rfl hidle

/-- Settles O55: a reset leaves `Idle` and no frame, an edge without a byte changes nothing, and a byte
step is `byte_keeps_frameSoFar`. -/
theorem everyStepKeepsTheFrameSoFar : Obligations.EveryStepKeepsTheFrameSoFar := by
  intro s t fr h hstep
  obtain ⟨hin, rfl⟩ | ⟨e, rest, hin, ⟨hrst, rfl⟩ | ⟨hrst, hvalid, rfl⟩ | ⟨hrst, hvalid, hexec⟩⟩ :=
    step_eq_next hstep
  · rw [frameAfter_of_nil fr hin]
    exact h
  · simp [FrameSoFar, frameAfter, hin, hrst]
  · have hkeep : frameAfter s fr = fr := by simp [frameAfter, hin, hrst, hvalid]
    rw [hkeep]
    exact h
  · rw [frameAfter_of_byte fr hin hrst hvalid hexec]
    exact byte_keeps_frameSoFar (s := { s with input := rest }) h hexec

end Sys2Proof.StateRules
end

section
/-!
The family of 20_memory.md: a channel pair lands in its slot high byte first (R51), and slots 12 to 15 of a
`VAR_CH1_12_SW64` frame are the 64-switch bitmap (R53), whose words set the switches on completion.
-/

namespace Sys2Proof.FrameBuffer

open Sys2Proof.Machine Sys2Proof.Safety

/-! ### A channel pair (R51) -/

/-- R106, R110: the slot exists, so the store goes through, and its byte is the slot's high half. -/
theorem storeHigh_next {s : State} (b : Byte) (st : FsmState) (hidx : s.idx.toNat < 66) :
    ∃ t, storeHigh b st s = .next t ∧ t.idx = s.idx ∧ t.buf.readByte (hiAddr s.idx.toNat) = some b :=
  ⟨_, storeHigh_eq_next.mpr ⟨hidx, rfl⟩, by simp, by simp [Memory.readByte_writeByte]⟩

/-- R107, R111: where the high half holds `h`, storing the low byte `l` makes the slot readable as the
pair. -/
theorem storeLow_readSlot {s : State} {h : Byte} (l : Byte) (st : FsmState) (hidx : s.idx.toNat < 66)
    (hhi : s.buf.readByte (hiAddr s.idx.toNat) = some h) :
    ∃ u, storeLow l st s = .next u ∧ readSlot u.buf s.idx.toNat = .ok (joinBytes h l) := by
  have hne : hiAddr s.idx.toNat ≠ loAddr s.idx.toNat := by simp only [hiAddr, loAddr]; omega
  refine ⟨_, storeLow_eq_next.mpr ⟨hidx, rfl⟩, readSlot_eq_ok.mpr ⟨hidx, h, l, ?_, ?_, rfl⟩⟩
  · simpa [Memory.readByte_writeByte_other _ _ hne] using hhi
  · simp [Memory.readByte_writeByte_same]

/-- Settles O19: each high-byte row is `storeHigh`, each low-byte row is `storeLow`, and `V1LOW.END` sets
the variant first, which touches neither the index nor the buffer. -/
theorem channelPairIsBigEndian : Obligations.ChannelPairIsBigEndian := by
  intro s h l hidx
  obtain ⟨t, ht, htidx, hthi⟩ := storeHigh_next h .v1Low hidx
  obtain ⟨v, hv, hvidx, hvhi⟩ := storeHigh_next h .v3Low hidx
  refine ⟨t, v, joinBytes h l, joinBytes_toNat h l, ht, hv, ?_, ?_⟩
  · rw [← htidx] at hidx hthi ⊢
    simp only [List.forall_mem_cons, List.not_mem_nil, false_implies, implies_true, and_true]
    exact ⟨storeLow_readSlot l .v1High hidx hthi,
      storeLow_readSlot (s := t.setVariant v1Variant) l .crcHigh hidx hthi⟩
  · rw [← hvidx] at hidx hvhi ⊢
    simp only [List.forall_mem_cons, List.not_mem_nil, false_implies, implies_true, and_true]
    exact ⟨storeLow_readSlot l .v3High hidx hvhi, storeLow_readSlot l .v3FuncCode hidx hvhi⟩

/-! ### What events do to the switches (R42) -/

theorem emitAll_switches_of_no_switchWrite {es : List Event} (s : State)
    (h : ∀ e ∈ es, isSwitchWrite e = false) : (s.emitAll es).switches = s.switches := by
  induction es generalizing s with
  | nil => rfl
  | cons e es ih =>
    rw [State.emitAll_cons, ih _ fun e' he' => h e' (List.mem_cons_of_mem e he')]
    have he := h e List.mem_cons_self
    cases e with
    | switchWrite i on => exact absurd he Bool.true_eq_false.mp
    | _ => rfl

/-- The copies of channels to outputs write pulses only (R183). -/
@[simp] theorem emitAll_putRange_switches (s : State) (p : Params) (slots : List Word16) (lo n off : Nat) :
    (s.emitAll (putRange p slots lo n off)).switches = s.switches := by
  refine emitAll_switches_of_no_switchWrite s fun e he => ?_
  obtain ⟨k, -, -, -, -, rfl⟩ := mem_putRange.mp he
  rfl

/-- Switch writes whose values are a function `f` of the switch set the listed switches to `f` and leave
the others. -/
theorem emitAll_map_switchWrite_getElem (s : State) (f : Fin 64 → Bool) (l : List (Fin 64)) (j : Fin 64) :
    (s.emitAll (l.map fun i => .switchWrite i (f i))).switches[j] = if j ∈ l then f j else s.switches[j] := by
  induction l generalizing s with
  | nil => simp
  | cons i l ih =>
    rw [List.map_cons, State.emitAll_cons, ih]
    by_cases hij : i = j
    · subst hij
      simp
    · simp [Ne.symm hij, Vector.getElem_set_ne, Fin.val_ne_of_ne hij]

/-! ### The switch bitmap (R53, R190, R194) -/

/-- Which of four words side by side bit `i` lies in, the first word the most significant. -/
theorem getLsbD_append_four (a b c d : Word16) (i : Nat) :
    (a ++ b ++ c ++ d).getLsbD i =
      if i < 16 then d.getLsbD i
      else if i < 32 then c.getLsbD (i - 16)
      else if i < 48 then b.getLsbD (i - 32)
      else a.getLsbD (i - 48) := by
  rw [BitVec.getLsbD_append (x := a ++ b ++ c), BitVec.getLsbD_append (x := a ++ b),
    BitVec.getLsbD_append (x := a)]
  have h32 : i - 16 < 16 ↔ i < 32 := by omega
  have h48 : i - 32 < 16 ↔ i < 48 := by omega
  simp only [Nat.sub_sub, Nat.reduceAdd, h32, h48]

/-- Bit `i` of the bitmap is bit `i % 16` of the slot `i / 16` places before slot 15 (R53, R190). -/
theorem getLsbD_of_bitmap {slots : List Word16} {bits : BitVec 64} (h : 16 ≤ slots.length)
    (hbits : bitmap slots = some bits) {i : Nat} (hi : i < 64) :
    bits.getLsbD i = (slots[15 - i / 16]'(by omega)).getLsbD (i % 16) := by
  obtain rfl := Option.some.inj ((bitmap_of_ge h).symm.trans hbits)
  refine (getLsbD_append_four _ _ _ _ i).trans ?_
  split_ifs
  · simp only [show i / 16 = 0 by omega, show i % 16 = i by omega]
  · simp only [show i / 16 = 1 by omega, show i % 16 = i - 16 by omega]
  · simp only [show i / 16 = 2 by omega, show i % 16 = i - 32 by omega]
  · simp only [show i / 16 = 3 by omega, show i % 16 = i - 48 by omega]

/-- R194: with 16 channels or more, unpacking sets every switch from its bit of slots 12 to 15. -/
theorem emitAll_unpackSwitches_getElem (s : State) {slots : List Word16} (h : 16 ≤ slots.length) {i : Nat}
    (hi : i < 64) :
    (s.emitAll (unpackSwitches slots)).switches[i] =
      (slots[15 - i / 16]'(by omega)).getLsbD (i % 16) := by
  have hbits := bitmap_of_ge h
  rw [unpackSwitches, hbits, ← getLsbD_of_bitmap h hbits hi]
  exact (emitAll_map_switchWrite_getElem s _ (List.finRange 64) ⟨i, hi⟩).trans (if_pos (List.mem_finRange _))

/-- R190: with fewer than 16 channels there is no bitmap and nothing is unpacked. -/
theorem unpackSwitches_of_lt {slots : List Word16} (h : slots.length < 16) : unpackSwitches slots = [] := by
  rw [unpackSwitches, bitmap_of_lt h]

/-! ### The completion step (R117, R195) -/

/-- Only the conversion of `VAR_CH1_12_SW64` writes switches, and only by its unpack (R184 to R191). -/
theorem emitAll_convert_switches (s : State) (p : Params) (slots : List Word16) (v : Variant) :
    (s.emitAll (convert p slots v)).switches =
      if v = .ch1to12sw64 then ((s.emitAll (putRange p slots 0 12 0)).emitAll (unpackSwitches slots)).switches
      else s.switches := by
  cases v with
  | ch1to12sw64 => simp [convert, convertCh1to12sw64, State.emitAll_append]
  | _ =>
    simp [convert, convertCh1to12, convertCh1to8and13to16, convertCh1to16, convertCh1to8and17to24,
      convertCh1to8and25to32, State.emitAll_append]

/-- Settles O29: the switches after a completion are those the conversion leaves; the unpack sets all of
them from 16 channels on, and is empty below. -/
theorem switchFrameSetsEverySwitch : Obligations.SwitchFrameSetsEverySwitch := by
  intro s t b slots hslots hexec
  obtain ⟨slots', hslots', rfl⟩ := completeFrame_eq_next.mp hexec
  obtain rfl := Except.ok.inj (hslots.symm.trans hslots')
  rw [completionEvents, State.emitAll_cons, State.goto_switches, emitAll_convert_switches]
  split
  · next h =>
    obtain ⟨hv, hlen⟩ := h
    intro i hi
    simp only [hv, if_true]
    exact emitAll_unpackSwitches_getElem _ hlen hi
  · next h =>
    split
    · next hv =>
      have hlen : slots.length < 16 := Nat.lt_of_not_le fun hlen => h ⟨hv, hlen⟩
      rw [unpackSwitches_of_lt hlen, State.emitAll_nil, emitAll_putRange_switches]
      rfl
    · rfl

end Sys2Proof.FrameBuffer
end

section
/-!
The family of 30_encoding.md, the byte-class map: the decoder and the encoder agree (R81), the two rows of a
function code do the same (R86, R112), and a table word runs as the row it is read as.

A decoded row is a row of R81's map, is well formed and encodes to its byte; that it fits its context is
`decode_fits`. In the other direction the row's own condition is the test by which `decode` chooses it.
-/

namespace Sys2Proof.Encoding

open Sys2Proof.Machine Sys2Proof.StateRules

/-! ### The decoded row (R81) -/

/-- The decoder answers the first row that matches (R86), never one of the classifier's. -/
theorem decode_classifierRow (c : Ctx) (b : Byte) : (decode c b).classifierRow = false := by
  cases hf : c.fsm <;> simp only [decode, hf]
  case idle | gotStart | startV1 | startV3 | v1Low | v3Low | v3FuncCode | crcLow => split_ifs <;> rfl
  all_goals rfl

/-- The byte is in the class of the row it selects. -/
theorem decode_wellFormed (c : Ctx) (b : Byte) : (decode c b).wellFormed = true := by
  cases hf : c.fsm <;> simp only [decode, hf]
  case gotStart | startV1 | startV3 | v3FuncCode => split_ifs <;> simp_all [Instr.wellFormed]
  case idle | v1Low | v3Low | crcLow => split <;> rfl
  all_goals rfl

/-- The row keeps every bit of the byte: a version row its high nibble beside the version it fixes (R73). -/
theorem encode_decode (c : Ctx) (b : Byte) : encode (decode c b) = b := by
  cases hf : c.fsm <;> simp only [decode, hf]
  case gotStart =>
    split_ifs with h1 h3
    · rw [encode, ← h1, versionByte_nibbles]
    · rw [encode, ← h3, versionByte_nibbles]
    · rfl
  case idle | startV1 | startV3 | v1Low | v3Low | v3FuncCode | crcLow => split <;> rfl
  all_goals rfl

/-- A well-formed row of R81's map is read back from its byte in every context that selects it: its class
and its condition are the tests of `decode`. -/
theorem decode_encode {c : Ctx} {i : Instr} (hrow : i.classifierRow = false) (hwf : i.wellFormed = true)
    (hfit : i.Fits c) : decode c (encode i) = i := by
  obtain ⟨hf, hcond⟩ := hfit
  cases i with
  | func00 | func01 | func02 | func03 | func04 | func05 | funcUnrec => cases hrow
  | gotStartV1 hi | gotStartV3 hi =>
    simp [decode, hf, Instr.fsm, encode, versionNibble_versionByte, highNibble_versionByte, verV3_ne_verV1]
  | _ => simp_all [decode, Instr.fsm, encode, Instr.wellFormed, Instr.condition]

/-- Settles O1: the four facts about the decoded row, and `decode_encode` for the other direction. -/
theorem decodeEncodeAgree : Obligations.DecodeEncodeAgree := by
  intro c b i
  constructor
  · rintro ⟨hrow, hwf, hfit, rfl⟩
    exact decode_encode hrow hwf hfit
  · rintro rfl
    exact ⟨decode_classifierRow c b, decode_wellFormed c b, decode_fits c b, encode_decode c b⟩

/-- Settles O3: each row named is well formed, belongs to the state named and encodes to the byte, so the
byte decodes to it (`decodeEncodeAgree`); the two function codes of the classifier's map compute. -/
theorem writtenOutBytesDecode : Obligations.WrittenOutBytesDecode := by
  intro c
  refine ⟨fun hf => ⟨?_, ?_, ?_⟩, fun hf => ⟨?_, ?_⟩, fun hf => ⟨?_, ?_⟩, fun hf => ⟨?_, ?_⟩, ?_, ?_⟩
  case refine_10 | refine_11 => rfl
  all_goals exact (decodeEncodeAgree c _ _).mp ⟨rfl, by decide, ⟨hf, rfl⟩, by decide⟩

/-! ### The two rows of a function code (R86, R112) -/

/-- R112: the row of R81's map takes the byte as the classifier says. -/
theorem exec_decode_of_v3FuncCode {c : Ctx} (hf : c.fsm = .v3FuncCode) (b : Byte) (s : State) :
    exec (decode c b) s = functionStep b (classify b) s := by
  simp only [decode, hf]
  split
  · rfl
  · next hundef =>
    rw [classify_of_undefined b hundef]
    rfl

/-- R160, R161: the classifier's row of the byte does the same. -/
theorem exec_decodeFunction (b : Byte) (s : State) :
    exec (decodeFunction b) s = functionStep b (classify b) s := by
  unfold decodeFunction classify
  split_ifs
  case neg => rfl
  all_goals subst b; rfl

/-- Settles O23: only in `V3FuncCode` is there a second row, and both are `functionStep` of the classified
byte. -/
theorem matchingRowsAgree : Obligations.MatchingRowsAgree := by
  intro c s b i hi
  by_cases hf : c.fsm = .v3FuncCode
  · simp only [decodeRows, hf, List.mem_cons, List.not_mem_nil, or_false] at hi
    obtain rfl | rfl := hi
    · rfl
    · rw [exec_decodeFunction, exec_decode_of_v3FuncCode hf]
  · have hrows : decodeRows c b = [decode c b] := by
      cases hf' : c.fsm <;> simp_all [decodeRows]
    rw [hrows, List.mem_singleton] at hi
    rw [hi]

/-! ### A table word (log entry 11) -/

/-- An edge that offers a byte runs the row the byte selects (R40, R100). -/
theorem step_of_offer {s : State} {b : Byte} {rest : List Edge} (h : s.input = Edge.offer b :: rest) :
    step s = exec (decode s.ctx b) { s with input := rest } :=
  step_of_cons h

theorem bareFsm_cases (b : Byte) : bareFsm b = .v3FuncCode ∨ bareFsm b = .gotStart ∨ bareFsm b = .idle := by
  unfold bareFsm
  split_ifs <;> simp

theorem decodeFunction_fsm (b : Byte) : (decodeFunction b).fsm = .v3FuncCode := by
  unfold decodeFunction
  split_ifs <;> rfl

theorem decodeBare_fsm (b : Byte) : (decodeBare b).fsm = bareFsm b := by
  unfold decodeBare
  split
  · next hf => rw [decodeFunction_fsm, hf]
  · exact Laws.RowStateEncodes.decode_fsm _ b

/-- In the state `bareFsm` gives a byte, and under the built block's start marker, the row it selects does
what `decodeBare` reads: no register takes part in the choice. -/
theorem exec_decode_bare {c : Ctx} {b : Byte} (hf : c.fsm = bareFsm b)
    (hmarker : c.startMarker = Config.params.startMarker) (s : State) :
    exec (decode c b) s = exec (decodeBare b) s := by
  obtain hbare | hbare | hbare := bareFsm_cases b
  · rw [exec_decode_of_v3FuncCode (hf.trans hbare), decodeBare, hbare]
    exact (exec_decodeFunction b s).symm
  · simp only [decodeBare, decode, hf, hbare]
  · simp only [decodeBare, decode, hf, hbare, hmarker]

/-- Settles O53: a word read as an instruction is a byte `b`, offered in the state `bareFsm b`. -/
theorem tableWordRunsItsRow : Obligations.TableWordRunsItsRow := by
  intro s w i hmarker hw
  unfold decodeTableWord at hw
  split at hw
  · cases hw
    rw [decodeBare_fsm, step_of_offer (s := s.withFetchWord 8 w) rfl]
    exact exec_decode_bare (b := BitVec.ofNat 8 w) rfl hmarker _
  · cases hw

end Sys2Proof.Encoding
end

section
/-!
The family of 30_encoding.md, whole frames (R71, R72, R79): from `Idle` the covered bytes of a V1 or V3
frame bring the block to `CrcHigh` with `FrameSoFar` of exactly those bytes, and the two bytes that follow
decide the frame.

`MidFrame` is where a run stands within a frame, `Reads` says which FSM state a byte sequence leads to, and
frames are put together from `reads_byte` by `reads_append`. The channel loop is the same in both formats
(`ChannelLoop`, `reads_channels`). What the completion then signals is read off `FrameSoFar` (`Delivers`).
-/

namespace Sys2Proof.Frames

open Sys2Proof.Machine Sys2Proof.Safety Sys2Proof.StateRules Sys2Proof.Encoding

/-! ### Runs of several steps -/

theorem runSteps_succ {s t : State} (n : Nat) (h : step s = .next t) : runSteps (n + 1) s = runSteps n t := by
  simp only [runSteps, h]

theorem runSteps_add {m : Nat} {s t : State} (n : Nat) (h : runSteps m s = .next t) :
    runSteps (m + n) s = runSteps n t := by
  induction m generalizing s with
  | zero =>
    cases h
    rw [Nat.zero_add]
  | succ m ih =>
    rw [Nat.succ_add]
    simp only [runSteps] at h ⊢
    cases hstep : step s with
    | next u =>
      rw [hstep] at h
      exact ih h
    | fault f => rw [hstep] at h; cases h
    | refused r => rw [hstep] at h; cases h

/-! ### Where a run stands within a frame -/

/-- A run that began in `s₀` stands in FSM state `st`, with the bytes `fr` of a frame taken and the edges
`todo` to come, and has changed no output. -/
structure MidFrame (s₀ : State) (st : FsmState) (fr : List Byte) (todo : List Edge) (s : State) : Prop where
  fsm : s.fsm = st
  outside : SameOutside { s₀ with input := todo } s
  inv : FrameInv s
  soFar : FrameSoFar s fr

theorem MidFrame.of_idle {s : State} {todo : List Edge} (hidle : s.fsm = .idle) (hin : s.input = todo) :
    MidFrame s .idle [] todo s :=
  ⟨hidle, ⟨rfl, hin.symm, rfl, rfl, rfl, rfl⟩, frameInv_of_idle hidle, by simp [FrameSoFar, hidle]⟩

theorem MidFrame.takeEdge {s₀ s : State} {st : FsmState} {fr : List Byte} {e : Edge} {todo : List Edge}
    (h : MidFrame s₀ st fr (e :: todo) s) : MidFrame s₀ st fr todo { s with input := todo } := by
  obtain ⟨hfsm, ⟨hparams, -, houtputs⟩, hinv, hsoFar⟩ := h
  exact ⟨hfsm, ⟨hparams, rfl, houtputs⟩, hinv, hsoFar⟩

/-- A byte that does not end the frame is taken, and is appended to the frame unless it is the first of the
two CRC bytes (R79). -/
theorem MidFrame.byte {s₀ s : State} {st : FsmState} {fr : List Byte} {b : Byte} {todo : List Edge}
    (h : MidFrame s₀ st fr (Edge.offer b :: todo) s) (hnext : nextFsm s.ctx b ≠ .idle) :
    ∃ t, step s = .next t ∧
      MidFrame s₀ (nextFsm s.ctx b) (if st = .crcHigh then fr else fr ++ [b]) todo t := by
  obtain ⟨hfsm, hout, hinv, hsoFar⟩ := h.takeEdge
  obtain ⟨t, ht⟩ := Scope.exec_decode_next_of_frameInv b hinv
  have htfsm : t.fsm = nextFsm s.ctx b := (exec_fsm ht).trans (destination_decode _ b)
  have hkept : SameOutside { s with input := todo } t := by
    obtain hkept | ⟨-, -, slots, rfl⟩ := byte_sameOutside_or_completes ht
    · exact hkept
    · exact absurd htfsm.symm hnext
  have hframe : frameAfterByte { s with input := todo } t b fr = if st = .crcHigh then fr else fr ++ [b] := by
    rw [frameAfterByte, if_neg (htfsm ▸ hnext), hfsm]
  refine ⟨t, (step_of_offer h.outside.input.symm).trans ht, htfsm, hout.trans hkept,
    byte_keeps_frameInv hinv ht, ?_⟩
  rw [← hframe]
  exact byte_keeps_frameSoFar hsoFar ht

/-- Within a frame of the run from `s₀`, with the bytes `fr` taken, the bytes `bs` lead from FSM state `st`
to `st'`, one byte a step, and are appended to the frame. -/
def Reads (s₀ : State) (st : FsmState) (fr bs : List Byte) (st' : FsmState) : Prop :=
  ∀ todo s, MidFrame s₀ st fr (offers bs ++ todo) s →
    ∃ t, runSteps bs.length s = .next t ∧ MidFrame s₀ st' (fr ++ bs) todo t

theorem reads_append {s₀ : State} {st st' st'' : FsmState} {fr bs cs : List Byte}
    (hbs : Reads s₀ st fr bs st') (hcs : Reads s₀ st' (fr ++ bs) cs st'') :
    Reads s₀ st fr (bs ++ cs) st'' := by
  intro todo s h
  rw [offers, List.map_append, List.append_assoc] at h
  obtain ⟨t, hrun, ht⟩ := hbs _ s h
  obtain ⟨u, hrun', hu⟩ := hcs todo t ht
  refine ⟨u, ?_, List.append_assoc fr bs cs ▸ hu⟩
  rw [List.length_append, runSteps_add cs.length hrun, hrun']

/-- One byte leads where R119's table says, in every state that has taken the bytes `fr`. -/
theorem reads_byte {s₀ : State} {st st' : FsmState} {fr : List Byte} {b : Byte} (hst : st ≠ .crcHigh)
    (hst' : st' ≠ .idle)
    (hnext : ∀ s, s.fsm = st → s₀.params = s.params → FrameSoFar s fr → nextFsm s.ctx b = st') :
    Reads s₀ st fr [b] st' := by
  intro todo s h
  have hs := hnext s h.fsm h.outside.params h.soFar
  obtain ⟨t, hstep, ht⟩ := h.byte (hs ▸ hst')
  rw [hs, if_neg hst] at ht
  exact ⟨t, runSteps_succ 0 hstep, ht⟩

/-! ### The channel loop (R107, R111) -/

/-- After the three bytes `hdr` of a frame with `n` channel pairs, the high byte of a pair leads from `hi`
to `lo`; its low byte leads back to `hi`, or to `fin` if it ends the pairs. -/
structure ChannelLoop (s₀ : State) (hdr : List Byte) (n : Nat) (hi lo fin : FsmState) : Prop where
  high : ∀ data b, Reads s₀ hi (hdr ++ data) [b] lo
  more : ∀ data b, data.length + 1 < 2 * n → Reads s₀ lo (hdr ++ data) [b] hi
  last : ∀ data b, data.length + 1 = 2 * n → Reads s₀ lo (hdr ++ data) [b] fin

/-- The pairs still missing from the frame lead out of the loop. -/
theorem reads_channels {s₀ : State} {hdr : List Byte} {n : Nat} {hi lo fin : FsmState}
    (hloop : ChannelLoop s₀ hdr n hi lo fin) {vs : List Word16} {data : List Byte} (hne : vs ≠ [])
    (hlen : data.length + 2 * vs.length = 2 * n) : Reads s₀ hi (hdr ++ data) (channelBytes vs) fin := by
  induction vs generalizing data with
  | nil => exact absurd rfl hne
  | cons v vs ih =>
    rw [List.length_cons] at hlen
    have hdata : (data ++ [highByte v]).length = data.length + 1 := by simp
    refine reads_append (bs := [highByte v]) (cs := lowByte v :: channelBytes vs) (hloop.high data _) ?_
    rw [List.append_assoc]
    by_cases hvs : vs = []
    · subst hvs
      rw [List.length_nil] at hlen
      exact hloop.last _ _ (by omega)
    · have hpos := List.length_pos_of_ne_nil hvs
      refine reads_append (bs := [lowByte v]) (hloop.more _ _ (by omega)) ?_
      rw [List.append_assoc]
      exact ih hvs (by simp only [List.length_append, List.length_singleton]; omega)

/-! ### What the bytes taken say of the registers -/

theorem versionByte_verV1_ne_verV3 (hi hi' : Nibble) :
    versionByte hi Config.verV1 ≠ versionByte hi' Config.verV3 := by
  intro h
  have hnibble := congrArg versionNibble h
  rw [versionNibble_versionByte, versionNibble_versionByte] at hnibble
  exact verV3_ne_verV1 hnibble.symm

theorem inV1_cons {s : State} {m v len : Byte} {data : List Byte} {extra : Nat}
    (h : InV1 s (m :: v :: len :: data) extra) :
    s.nch.toNat = len.toNat ∧ data.length = 2 * s.idx.toNat + extra ∧ HoldsBytes s.buf data := by
  obtain ⟨hi, len', data', heq, -, -, hnch, hlen, hold⟩ := h
  cases heq
  exact ⟨hnch, hlen, hold⟩

theorem inV3_cons {s : State} {m v len : Byte} {data trailer trailer' : List Byte} {extra : Nat}
    (h : InV3 s (m :: v :: len :: (data ++ trailer)) extra trailer')
    (htrailer : trailer.length = trailer'.length) :
    s.nch.toNat = len.toNat - 2 ∧ data.length = 2 * s.idx.toNat + extra ∧ HoldsBytes s.buf data ∧
      trailer' = trailer := by
  obtain ⟨hi, len', data', heq, -, -, hnch, hlen, hold⟩ := h
  simp only [List.cons.injEq] at heq
  obtain ⟨-, -, rfl, happend⟩ := heq
  obtain ⟨rfl, rfl⟩ := List.append_inj' happend htrailer
  exact ⟨hnch, hlen, hold, rfl⟩

theorem not_inV3_of_verV1 {s : State} {m : Byte} {hi : Nibble} {tail trailer : List Byte} {extra : Nat} :
    ¬ InV3 s (m :: versionByte hi Config.verV1 :: tail) extra trailer := by
  rintro ⟨hi', len, data, heq, -⟩
  simp only [List.cons.injEq] at heq
  obtain ⟨-, hversion, -⟩ := heq
  exact versionByte_verV1_ne_verV3 hi hi' hversion

theorem not_inV1_of_verV3 {s : State} {m : Byte} {hi : Nibble} {tail : List Byte} {extra : Nat} :
    ¬ InV1 s (m :: versionByte hi Config.verV3 :: tail) extra := by
  rintro ⟨hi', len, data, heq, -⟩
  simp only [List.cons.injEq] at heq
  obtain ⟨-, hversion, -⟩ := heq
  exact versionByte_verV1_ne_verV3 hi' hi hversion.symm

/-- Before the low byte of a V1 pair, the bytes taken fix the channel count and the slot index. -/
theorem frameSoFar_v1Low {s : State} {m v len : Byte} {data : List Byte} (hf : s.fsm = .v1Low)
    (h : FrameSoFar s ([m, v, len] ++ data)) :
    s.nch.toNat = len.toNat ∧ data.length = 2 * s.idx.toNat + 1 := by
  obtain ⟨-, hrow⟩ := h
  simp only [hf] at hrow
  obtain ⟨hframe, -⟩ := hrow
  obtain ⟨hnch, hlen, -⟩ := inV1_cons hframe
  exact ⟨hnch, hlen⟩

/-- The same before the low byte of a V3 pair. -/
theorem frameSoFar_v3Low {s : State} {m v len : Byte} {data : List Byte} (hf : s.fsm = .v3Low)
    (h : FrameSoFar s ([m, v, len] ++ data)) :
    s.nch.toNat = len.toNat - 2 ∧ data.length = 2 * s.idx.toNat + 1 := by
  obtain ⟨-, hrow⟩ := h
  simp only [hf] at hrow
  obtain ⟨hframe, -⟩ := hrow
  rw [← List.append_nil data] at hframe
  obtain ⟨hnch, hlen, -⟩ := inV3_cons (data := data) (trailer := []) hframe rfl
  exact ⟨hnch, hlen⟩

/-! ### The covered bytes of a frame lead to `CrcHigh` -/

theorem reads_marker (s₀ : State) : Reads s₀ .idle [] [s₀.params.startMarker] .gotStart :=
  reads_byte (by decide) (by decide) fun s hf hparams _ => by simp [nextFsm, hf, hparams]

theorem reads_versionV1 (s₀ : State) (fr : List Byte) (hi : Nibble) :
    Reads s₀ .gotStart fr [versionByte hi Config.verV1] .startV1 := by
  have hversion := (versionNibble_eq_verV1 _).mp (versionNibble_versionByte hi Config.verV1)
  exact reads_byte (by decide) (by decide) fun s hf _ _ => by simp [nextFsm, hf, hversion]

theorem reads_versionV3 (s₀ : State) (fr : List Byte) (hi : Nibble) :
    Reads s₀ .gotStart fr [versionByte hi Config.verV3] .startV3 := by
  have hversion := (versionNibble_eq_verV3 _).mp (versionNibble_versionByte hi Config.verV3)
  exact reads_byte (by decide) (by decide) fun s hf _ _ => by simp [nextFsm, hf, hversion]

theorem reads_lengthV1 (s₀ : State) (fr : List Byte) {len : Byte} (hmin : 2 ≤ len.toNat)
    (hmax : len.toNat ≤ 32) : Reads s₀ .startV1 fr [len] .v1High :=
  reads_byte (by decide) (by decide) fun s hf _ _ => by simp [nextFsm, hf, hmin, hmax]

theorem reads_lengthV3 (s₀ : State) (fr : List Byte) {len : Byte} (hmin : 2 ≤ len.toNat)
    (hmax : len.toNat ≤ 68) : Reads s₀ .startV3 fr [len] .v3High :=
  reads_byte (by decide) (by decide) fun s hf _ _ => by simp [nextFsm, hf, hmin, hmax]

/-- R106, R107: as many pairs as the length byte says. -/
theorem channelLoopV1 (s₀ : State) (m v len : Byte) :
    ChannelLoop s₀ [m, v, len] len.toNat .v1High .v1Low .crcHigh where
  high data b := reads_byte (by decide) (by decide) fun s hf _ _ => by simp [nextFsm, hf]
  more data b hlt := reads_byte (by decide) (by decide) fun s hf _ hsoFar => by
    obtain ⟨hnch, hlen⟩ := frameSoFar_v1Low hf hsoFar
    have hmore : s.idx.toNat + 1 < s.nch.toNat := by omega
    simp [nextFsm, hf, hmore]
  last data b heq := reads_byte (by decide) (by decide) fun s hf _ hsoFar => by
    obtain ⟨hnch, hlen⟩ := frameSoFar_v1Low hf hsoFar
    have hlast : ¬ s.idx.toNat + 1 < s.nch.toNat := by omega
    simp [nextFsm, hf, hlast]

/-- R110, R111, R123: `len - 2` pairs, but at least one. -/
theorem channelLoopV3 (s₀ : State) (m v len : Byte) :
    ChannelLoop s₀ [m, v, len] (max (len.toNat - 2) 1) .v3High .v3Low .v3FuncCode where
  high data b := reads_byte (by decide) (by decide) fun s hf _ _ => by simp [nextFsm, hf]
  more data b hlt := reads_byte (by decide) (by decide) fun s hf _ hsoFar => by
    obtain ⟨hnch, hlen⟩ := frameSoFar_v3Low hf hsoFar
    have hmore : s.idx.toNat + 1 < s.nch.toNat := by omega
    simp [nextFsm, hf, hmore]
  last data b heq := reads_byte (by decide) (by decide) fun s hf _ hsoFar => by
    obtain ⟨hnch, hlen⟩ := frameSoFar_v3Low hf hsoFar
    have hlast : ¬ s.idx.toNat + 1 < s.nch.toNat := by omega
    simp [nextFsm, hf, hlast]

/-- R113 to R115: the four trailer bytes lead to the CRC, whatever they are. -/
theorem reads_trailer (s₀ : State) (fr : List Byte) (f x y z : Byte) :
    Reads s₀ .v3FuncCode fr [f, x, y, z] .crcHigh := by
  have hf : Reads s₀ .v3FuncCode fr [f] .v3LastValid :=
    reads_byte (by decide) (by decide) fun s hf _ _ => by simp [nextFsm, hf]
  have hx (fr) : Reads s₀ .v3LastValid fr [x] .v3ModeCmd :=
    reads_byte (by decide) (by decide) fun s hf _ _ => by simp [nextFsm, hf]
  have hy (fr) : Reads s₀ .v3ModeCmd fr [y] .v3SubCmd :=
    reads_byte (by decide) (by decide) fun s hf _ _ => by simp [nextFsm, hf]
  have hz (fr) : Reads s₀ .v3SubCmd fr [z] .crcHigh :=
    reads_byte (by decide) (by decide) fun s hf _ _ => by simp [nextFsm, hf]
  exact reads_append hf (reads_append (hx _) (reads_append (hy _) (hz _)))

theorem reads_coveredV1 (s₀ : State) (hi : Nibble) {vs : List Word16} (hmin : 2 ≤ vs.length)
    (hmax : vs.length ≤ 32) : Reads s₀ .idle [] (coveredV1 s₀.params.startMarker hi vs) .crcHigh := by
  have hlen : (BitVec.ofNat 8 vs.length).toNat = vs.length := by
    rw [BitVec.toNat_ofNat, Nat.mod_eq_of_lt (by omega)]
  have hchannels := reads_channels (channelLoopV1 s₀ s₀.params.startMarker (versionByte hi Config.verV1)
    (BitVec.ofNat 8 vs.length)) (vs := vs) (data := []) (List.ne_nil_of_length_pos (by omega)) (by simp [hlen])
  exact reads_append (reads_marker s₀) <| reads_append (reads_versionV1 s₀ _ hi) <|
    reads_append (reads_lengthV1 s₀ _ (by omega) (by omega)) hchannels

theorem reads_coveredV3 (s₀ : State) (hi : Nibble) {nch : Nat} {pairs : List Word16} (f x y z : Byte)
    (hmax : nch ≤ 66) (hpairs : pairs.length = max nch 1) :
    Reads s₀ .idle [] (coveredV3 s₀.params.startMarker hi nch pairs f x y z) .crcHigh := by
  have hlen : (BitVec.ofNat 8 (nch + 2)).toNat = nch + 2 := by
    rw [BitVec.toNat_ofNat, Nat.mod_eq_of_lt (by omega)]
  have hchannels := reads_channels (channelLoopV3 s₀ s₀.params.startMarker (versionByte hi Config.verV3)
    (BitVec.ofNat 8 (nch + 2))) (vs := pairs) (data := []) (List.ne_nil_of_length_pos (by omega))
    (by simp [hlen, hpairs])
  exact reads_append (reads_marker s₀) <| reads_append (reads_versionV3 s₀ _ hi) <|
    reads_append (reads_lengthV3 s₀ _ (by omega) (by omega)) <|
    reads_append hchannels (reads_trailer s₀ _ f x y z)

/-! ### The slots a complete frame delivers -/

theorem joinBytes_highByte_lowByte (v : Word16) : joinBytes (highByte v) (lowByte v) = v := by
  refine BitVec.eq_of_toNat_eq ?_
  rw [joinBytes_toNat]
  simp only [highByte, lowByte, BitVec.extractLsb'_toNat]
  omega

theorem length_channelBytes (vs : List Word16) : (channelBytes vs).length = 2 * vs.length := by
  induction vs with
  | nil => rfl
  | cons v vs ih => simp only [channelBytes, List.length_cons, ih]; omega

/-- R51: the two bytes of pair `k` stand where slot `k` has its halves. -/
theorem channelBytes_getElem? {vs : List Word16} {k : Nat} (hk : k < vs.length) :
    (channelBytes vs)[hiAddr k]? = some (highByte vs[k]) ∧
      (channelBytes vs)[loAddr k]? = some (lowByte vs[k]) := by
  induction vs generalizing k with
  | nil => cases hk
  | cons v vs ih =>
    cases k with
    | zero => exact ⟨rfl, rfl⟩
    | succ k => exact ih (Nat.lt_of_succ_lt_succ hk)

theorem readByte_of_holdsBytes {m : Memory} {data : List Byte} {a : Nat} {b : Byte} (h : HoldsBytes m data)
    (hb : data[a]? = some b) : m.readByte a = some b := by
  obtain ⟨ha, rfl⟩ := List.getElem?_eq_some_iff.mp hb
  exact h a ha

/-- A buffer that holds the pairs reads as them, slot by slot. -/
theorem readSlots_of_holdsBytes {m : Memory} {vs : List Word16} {n : Nat}
    (h : HoldsBytes m (channelBytes vs)) (hn : n ≤ vs.length) (hcap : n ≤ 66) :
    readSlots m 0 n = .ok (vs.take n) := by
  refine readSlots_eq_ok.mpr ⟨List.length_take_of_le hn, fun k hk => ?_⟩
  rw [List.length_take_of_le hn] at hk
  obtain ⟨hhi, hlo⟩ := channelBytes_getElem? (Nat.lt_of_lt_of_le hk hn)
  rw [Nat.zero_add, List.getElem_take]
  exact readSlot_eq_ok.mpr ⟨Nat.lt_of_lt_of_le hk hcap, _, _, readByte_of_holdsBytes h hhi,
    readByte_of_holdsBytes h hlo, (joinBytes_highByte_lowByte _).symm⟩

/-- The covered bytes `fr` of a frame leave, for the completion step, variant `v`, channel count `n` and the
slots `slots`. -/
def Delivers (fr : List Byte) (v : Variant) (n : Count7) (slots : List Word16) : Prop :=
  ∀ s : State, s.fsm = .crcLow → FrameSoFar s fr →
    s.variant = v ∧ s.nch = n ∧ readSlots s.buf 0 s.nch.toNat = .ok slots

theorem delivers_coveredV1 (m : Byte) (hi : Nibble) {vs : List Word16} (hmax : vs.length ≤ 32) :
    Delivers (coveredV1 m hi vs) .ch1to16 (BitVec.ofNat 7 vs.length) vs := by
  rintro s hf ⟨-, hrow⟩
  simp only [hf] at hrow
  obtain ⟨hframe, -, hvariant⟩ | ⟨f, x, y, z, hframe, -⟩ := hrow
  · obtain ⟨hnch, -, hold⟩ := inV1_cons hframe
    rw [BitVec.toNat_ofNat, Nat.mod_eq_of_lt (by omega)] at hnch
    refine ⟨hvariant, by rw [← hnch]; simp, ?_⟩
    rw [hnch, readSlots_of_holdsBytes hold (Nat.le_refl _) (by omega), List.take_length]
  · exact absurd hframe not_inV3_of_verV1

theorem delivers_coveredV3 (m : Byte) (hi : Nibble) {nch : Nat} {pairs : List Word16} (f x y z : Byte)
    (hmax : nch ≤ 66) (hpairs : pairs.length = max nch 1) :
    Delivers (coveredV3 m hi nch pairs f x y z) (classify f) (BitVec.ofNat 7 nch) (pairs.take nch) := by
  rintro s hf ⟨-, hrow⟩
  simp only [hf] at hrow
  obtain ⟨hframe, -⟩ | ⟨f', x', y', z', hframe, -, hvariant⟩ := hrow
  · exact absurd hframe not_inV1_of_verV3
  · obtain ⟨hnch, -, hold, htrailer⟩ := inV3_cons hframe rfl
    cases htrailer
    rw [BitVec.toNat_ofNat, Nat.mod_eq_of_lt (by omega), Nat.add_sub_cancel] at hnch
    refine ⟨hvariant, by rw [← hnch]; simp, ?_⟩
    rw [hnch]
    exact readSlots_of_holdsBytes hold (by omega) hmax

/-! ### The two CRC bytes decide (R79, R116 to R118) -/

/-- What is left in `t` of a frame with covered bytes `fr` that began in `s₀` and was followed by `h` and
`l`: the frame's count and events if the two bytes are its CRC, the old outputs otherwise. -/
def DecidedByCrc (s₀ : State) (fr : List Byte) (h l : Byte) (v : Variant) (n : Count7) (slots : List Word16)
    (todo : List Edge) (t : State) : Prop :=
  t.fsm = .idle ∧ t.input = todo ∧
    if h.toNat * 256 + l.toNat = (crc16 fr).toNat then
      t.pkt = s₀.pkt + 1 ∧ t.out = s₀.out ++ .frameReady v n slots :: convert s₀.params slots v
    else SameOutputs t s₀

/-- R116: the first byte is kept in `rxhi`. -/
theorem MidFrame.crcHigh {s₀ s : State} {fr : List Byte} {h : Byte} {todo : List Edge}
    (hs : MidFrame s₀ .crcHigh fr (Edge.offer h :: todo) s) :
    ∃ t, step s = .next t ∧ t.rxhi = h ∧ MidFrame s₀ .crcLow fr todo t := by
  have hnext : nextFsm s.ctx h = .crcLow := by simp [nextFsm, hs.fsm]
  obtain ⟨t, hstep, ht⟩ := hs.byte (by simp [hnext])
  rw [hnext, if_pos rfl] at ht
  refine ⟨t, hstep, ?_, ht⟩
  rw [step_of_offer hs.outside.input.symm] at hstep
  simp only [decode, State.ctx_fsm, hs.fsm] at hstep
  cases hstep
  rfl

/-- R117, R118: the second byte completes the frame or discards it. -/
theorem exec_crcLow_decided {s₀ s : State} {fr : List Byte} {h l : Byte} {v : Variant} {n : Count7}
    {slots : List Word16} {todo : List Edge} (hs : MidFrame s₀ .crcLow fr todo s) (hrxhi : s.rxhi = h)
    (hfr : Delivers fr v n slots) :
    ∃ t, exec (decode s.ctx l) s = .next t ∧ DecidedByCrc s₀ fr h l v n slots todo t := by
  obtain ⟨hf, ⟨hparams, hinput, hpkt, hpulses, hswitches, hout⟩, -, hsoFar⟩ := hs
  obtain ⟨rfl, rfl, hslots⟩ := hfr s hf hsoFar
  have hcrc : s.crc = crc16 fr := hsoFar.1 (by simp [hf])
  have hiff : h.toNat * 256 + l.toNat = (crc16 fr).toNat ↔ crcEqual s.crc s.rxhi l = true := by
    rw [crcEqual_iff, hrxhi, hcrc, ← joinBytes_toNat, BitVec.toNat_inj]
  simp only at hparams hinput hpkt hpulses hswitches hout
  simp only [decode, State.ctx_fsm, State.ctx_crc, State.ctx_rxhi, hf, DecidedByCrc, hiff]
  by_cases hmatch : crcEqual s.crc s.rxhi l = true
  · simp only [hmatch, if_true]
    exact ⟨_, completeFrame_eq_next.mpr ⟨slots, hslots, rfl⟩, rfl, by simp [hinput], by simp [hpkt],
      by simp [completionEvents, hparams, hout]⟩
  · simp only [hmatch]
    exact ⟨_, rfl, rfl, hinput.symm, hpkt.symm, hpulses.symm, hswitches.symm, hout.symm⟩

/-- A frame whose covered bytes lead from `Idle` to `CrcHigh` is decided by the two bytes that follow. -/
theorem frame_decided_by_crc {s : State} {fr : List Byte} {h l : Byte} {v : Variant} {n : Count7}
    {slots : List Word16} {rest : List Edge} (hidle : s.fsm = .idle)
    (hin : s.input = offers (fr ++ [h, l]) ++ rest) (hreads : Reads s .idle [] fr .crcHigh)
    (hfr : Delivers fr v n slots) :
    ∃ t, runSteps (fr.length + 2) s = .next t ∧ DecidedByCrc s fr h l v n slots rest t := by
  rw [offers, List.map_append, List.append_assoc] at hin
  obtain ⟨t, hrun, ht⟩ := hreads _ s (MidFrame.of_idle hidle hin)
  obtain ⟨u, hstep, hrxhi, hu⟩ := ht.crcHigh
  obtain ⟨w, hexec, hw⟩ := exec_crcLow_decided hu.takeEdge hrxhi hfr
  have hstep' := (step_of_offer hu.outside.input.symm).trans hexec
  refine ⟨w, ?_, hw⟩
  rw [runSteps_add 2 hrun, runSteps_succ 1 hstep, runSteps_succ 0 hstep']
  rfl

/-- Settles O51: the covered bytes lead to `CrcHigh` and deliver the channels, and the last two decide. -/
theorem frameV1DecidedByItsCrc : Obligations.FrameV1DecidedByItsCrc := by
  intro s hi vs h l rest hidle hmin hmax hin
  have hlen : 5 + 2 * vs.length = (coveredV1 s.params.startMarker hi vs).length + 2 := by
    simp only [coveredV1, List.length_cons, length_channelBytes]
    omega
  rw [hlen]
  exact frame_decided_by_crc hidle hin (reads_coveredV1 s hi hmin hmax) (delivers_coveredV1 _ hi hmax)

/-- Settles O52: as O51; the channel loop takes one pair even when the frame has no channel (R123). -/
theorem frameV3DecidedByItsCrc : Obligations.FrameV3DecidedByItsCrc := by
  intro s hi nch pairs f x y z h l rest hidle hmax hpairs hin
  have hlen : 9 + 2 * max nch 1 = (coveredV3 s.params.startMarker hi nch pairs f x y z).length + 2 := by
    simp only [coveredV3, List.length_cons, List.length_append, length_channelBytes, hpairs, List.length_nil]
    omega
  rw [hlen]
  exact frame_decided_by_crc hidle hin (reads_coveredV3 s hi f x y z hmax hpairs)
    (delivers_coveredV3 _ hi f x y z hmax hpairs)

end Sys2Proof.Frames
end

section
/-!
The family of 41_decoder_fsm.md, row by row (R101 to R118): which bytes select a row, and the one next state
the row answers; then the two tables over all rows (R119, R120).

A row is selected by its own byte wherever its class and its condition hold (`selects_encode`), so a
selection is settled by the row's `wellFormed` and `condition`, in numbers. What a row answers is its meaning
computed, with the store in `bufWriteHi_of_lt` and `bufWriteLo_of_lt`.
-/

namespace Sys2Proof.DecoderFsm

open Sys2Proof.Machine Sys2Proof.Safety Sys2Proof.StateRules Sys2Proof.Encoding

/-! ### Selecting a row (R81, R100) -/

/-- Settles O4: an offered byte runs the decoded row, which is well formed and fits. -/
theorem stepRunsDecodedInstruction : Obligations.StepRunsDecodedInstruction :=
  fun s b _ hin => ⟨step_of_offer hin, decode_wellFormed s.ctx b, decode_fits s.ctx b⟩

/-- A well-formed row of R81's map is selected by its byte in every state whose context it fits. -/
theorem selects_encode {s : State} {i : Instr} (hrow : i.classifierRow = false) (hwf : i.wellFormed = true)
    (hfit : i.Fits s.ctx) : Selects s (encode i) i := by
  have hdecode := decode_encode hrow hwf hfit
  refine ⟨hdecode, fun rest hin => ?_⟩
  rw [step_of_offer hin, hdecode]

/-! ### The conditions, in numbers -/

/-- A row whose class or condition is the negation of a test holds exactly where the test's meaning in numbers
does not. -/
theorem not_eq_true_of_iff {c : Bool} {p : Prop} (h : c = true ↔ p) (hp : ¬p) : (!c) = true := by
  rw [Bool.not_eq_true', ← Bool.not_eq_true, h]
  exact hp

theorem gotStartBad_wellFormed {b : Byte} (h1 : b.toNat % 16 ≠ 1) (h3 : b.toNat % 16 ≠ 3) :
    (Instr.gotStartBad b).wellFormed = true := by
  simp [Instr.wellFormed, versionNibble_eq_verV1, versionNibble_eq_verV3, h1, h3]

/-- R32, R78: the comparison of `CrcLow` is one of numbers, `rxhi` the more significant byte. -/
theorem crcEqual_iff_toNat (crc : Word16) (rxhi b : Byte) :
    crcEqual crc rxhi b = true ↔ rxhi.toNat * 256 + b.toNat = crc.toNat := by
  rw [crcEqual_iff, ← joinBytes_toNat, BitVec.toNat_inj]

/-! ### Start and version (R101 to R103) -/

/-- Settles O9: the two rows of `Idle` split the bytes by equality with the marker. -/
theorem idleTakesTheMarkerOrDiscards : Obligations.IdleTakesTheMarkerOrDiscards := by
  intro s b
  refine ⟨fun hf hb => ?_, fun hf hb => ?_, rfl, rfl⟩
  · exact selects_encode (i := .idleSof b) rfl rfl ⟨hf, beq_iff_eq.mpr hb⟩
  · exact selects_encode (i := .idleOther b) rfl rfl ⟨hf, bne_iff_ne.mpr hb⟩

/-- Settles O10: each version row is encoded with its high nibble free, and folds its own encoding. -/
theorem versionByteSelectsTheFormat : Obligations.VersionByteSelectsTheFormat := by
  intro s hi
  refine ⟨fun hf => ?_, fun hf => ?_, rfl, rfl⟩
  · exact selects_encode (i := .gotStartV1 hi) rfl rfl ⟨hf, rfl⟩
  · exact selects_encode (i := .gotStartV3 hi) rfl rfl ⟨hf, rfl⟩

/-- Settles O11: a low nibble that is neither version is the class of the row. -/
theorem badVersionNibbleAborts : Obligations.BadVersionNibbleAborts := by
  intro s b
  refine ⟨fun hf h1 h3 => ?_, rfl⟩
  exact selects_encode (i := .gotStartBad b) rfl (gotStartBad_wellFormed h1 h3) ⟨hf, rfl⟩

/-! ### Lengths (R104, R105, R108, R109) -/

/-- Settles O12: a length of at most 32 fits the 7 bits of `nch`. -/
theorem lengthV1Accepted : Obligations.LengthV1Accepted := by
  intro s b hmin hmax
  refine ⟨fun hf => ?_, nchOfLenV1 b, nchOfLenV1_toNat hmax, rfl⟩
  exact selects_encode (i := .startV1LenOk b) rfl ((lenOkV1_iff b).mpr ⟨hmin, hmax⟩) ⟨hf, rfl⟩

/-- Settles O13: the row is the abort, without a fold. -/
theorem lengthV1Rejected : Obligations.LengthV1Rejected := by
  intro s b
  refine ⟨fun hf hout => ?_, rfl⟩
  exact selects_encode (i := .startV1LenBad b) rfl (not_eq_true_of_iff (lenOkV1_iff b) (by omega)) ⟨hf, rfl⟩

/-- Settles O14: a length of at most 68 less 2 fits the 7 bits of `nch`. -/
theorem lengthV3Accepted : Obligations.LengthV3Accepted := by
  intro s b hmin hmax
  refine ⟨fun hf => ?_, nchOfLenV3 b, nchOfLenV3_toNat hmax, rfl⟩
  exact selects_encode (i := .startV3LenOk b) rfl ((lenOkV3_iff b).mpr ⟨hmin, hmax⟩) ⟨hf, rfl⟩

/-- Settles O15: the row is the abort, without a fold. -/
theorem lengthV3Rejected : Obligations.LengthV3Rejected := by
  intro s b
  refine ⟨fun hf hout => ?_, rfl⟩
  exact selects_encode (i := .startV3LenBad b) rfl (not_eq_true_of_iff (lenOkV3_iff b) (by omega)) ⟨hf, rfl⟩

/-! ### Channel bytes (R106, R107, R110, R111) -/

/-- Settles O16: both rows are the shared store of a high half, and slot `idx` exists. -/
theorem highByteStored : Obligations.HighByteStored := by
  intro s b hidx
  refine ⟨fun hf => ?_, fun hf => ?_, s.buf.writeByte (hiAddr s.idx.toNat) b, ?_, ?_, fun a => ?_⟩
  · exact selects_encode (i := .v1High b) rfl rfl ⟨hf, rfl⟩
  · exact selects_encode (i := .v3High b) rfl rfl ⟨hf, rfl⟩
  · exact storeHigh_eq_next.mpr ⟨hidx, rfl⟩
  · exact storeHigh_eq_next.mpr ⟨hidx, rfl⟩
  · exact s.buf.readByte_writeByte _ a b

/-- Settles O17: both rows are the shared store of a low half, and `V1LOW.END` sets the variant first. -/
theorem lowByteV1Stored : Obligations.LowByteV1Stored := by
  intro s b hidx
  refine ⟨fun hf hmore => ?_, fun hf hlast => ?_, s.buf.writeByte (loAddr s.idx.toNat) b, s.idx + 1,
    idx_succ_toNat hidx, ?_, ?_, fun a => ?_⟩
  · exact selects_encode (i := .v1LowLoop b) rfl rfl ⟨hf, (morePairs_iff _ _).mpr hmore⟩
  · exact selects_encode (i := .v1LowEnd b) rfl rfl
      ⟨hf, not_eq_true_of_iff (morePairs_iff _ _) (Nat.not_lt.mpr hlast)⟩
  · exact storeLow_eq_next.mpr ⟨hidx, rfl⟩
  · exact storeLow_eq_next.mpr ⟨hidx, rfl⟩
  · exact s.buf.readByte_writeByte _ a b

/-- Settles O18: both rows are the shared store of a low half. -/
theorem lowByteV3Stored : Obligations.LowByteV3Stored := by
  intro s b hidx
  refine ⟨fun hf hmore => ?_, fun hf hlast => ?_, s.buf.writeByte (loAddr s.idx.toNat) b, s.idx + 1,
    idx_succ_toNat hidx, ?_, ?_, fun a => ?_⟩
  · exact selects_encode (i := .v3LowLoop b) rfl rfl ⟨hf, (morePairs_iff _ _).mpr hmore⟩
  · exact selects_encode (i := .v3LowEnd b) rfl rfl
      ⟨hf, not_eq_true_of_iff (morePairs_iff _ _) (Nat.not_lt.mpr hlast)⟩
  · exact storeLow_eq_next.mpr ⟨hidx, rfl⟩
  · exact storeLow_eq_next.mpr ⟨hidx, rfl⟩
  · exact s.buf.readByte_writeByte _ a b

/-! ### The V3 trailer (R112 to R115) -/

/-- R80, R160: the variant code of a defined function code is that code. -/
theorem classify_code : ∀ b : Byte, b.toNat ≤ 5 → (classify b).code = b.extractLsb' 0 3 := by
  decide

/-- Settles O21: the row of a defined code stores the classified variant, the other row `VAR_UNREC`. -/
theorem functionCodeClassified : Obligations.FunctionCodeClassified := by
  intro s b
  refine ⟨fun hdef => ⟨fun hf => ?_, classify b, classify_code b hdef, rfl⟩, fun hundef => ⟨fun hf => ?_, rfl⟩⟩
  · exact selects_encode (i := .v3FuncDef b) rfl ((functionDefined_iff b).mpr hdef) ⟨hf, rfl⟩
  · exact selects_encode (i := .v3FuncUnrec b) rfl
      (not_eq_true_of_iff (functionDefined_iff b) (by omega)) ⟨hf, rfl⟩

/-- Settles O24: each trailer state has one row, which is the shared fold. -/
theorem trailerBytesOnlyFolded : Obligations.TrailerBytesOnlyFolded := by
  intro s b
  refine ⟨fun hf => ?_, fun hf => ?_, fun hf => ?_, rfl, rfl, rfl⟩
  · exact selects_encode (i := .v3LastValid b) rfl rfl ⟨hf, rfl⟩
  · exact selects_encode (i := .v3ModeCmd b) rfl rfl ⟨hf, rfl⟩
  · exact selects_encode (i := .v3SubCmd b) rfl rfl ⟨hf, rfl⟩

/-! ### The CRC check and the completion (R116 to R118) -/

/-- Settles O25: `CrcHigh` has one row. -/
theorem crcHighByteKept : Obligations.CrcHighByteKept :=
  fun _ b => ⟨fun hf => selects_encode (i := .crcHigh b) rfl rfl ⟨hf, rfl⟩, rfl⟩

/-- Settles O26: the row of an unequal CRC is the abort. -/
theorem crcMismatchDiscardsTheFrame : Obligations.CrcMismatchDiscardsTheFrame := by
  intro s b
  refine ⟨fun hf hne => ?_, rfl⟩
  exact selects_encode (i := .crcLowMismatch b) rfl rfl
    ⟨hf, not_eq_true_of_iff (crcEqual_iff_toNat _ _ _) hne⟩

/-- Slots whose two halves are those of the listed values read as the list (R51). -/
theorem readSlots_of_halves {m : Memory} {slots : List Word16} (hcap : slots.length ≤ 66)
    (h : ∀ k (hk : k < slots.length), m.readByte (hiAddr k) = some (highByte slots[k]) ∧
      m.readByte (loAddr k) = some (lowByte slots[k])) : readSlots m 0 slots.length = .ok slots := by
  refine readSlots_eq_ok.mpr ⟨rfl, fun k hk => ?_⟩
  obtain ⟨hhi, hlo⟩ := h k hk
  rw [Nat.zero_add]
  exact readSlot_eq_ok.mpr ⟨Nat.lt_of_lt_of_le hk hcap, _, _, hhi, hlo,
    (Frames.joinBytes_highByte_lowByte _).symm⟩

/-- R42: events reach the event list and the collaborators' storage, and nothing else. -/
theorem emitAll_frame (s : State) (es : List Event) :
    s.emitAll es =
      { s with out := s.out ++ es, pulses := (s.emitAll es).pulses, switches := (s.emitAll es).switches } := by
  induction es generalizing s with
  | nil => simp
  | cons e es ih =>
    rw [State.emitAll_cons]
    refine (ih (s.emit e)).trans ?_
    cases e <;> simp [State.emit]

/-- Settles O27: the listed slots are those the completion step reads, and its events leave the registers
alone (`emitAll_frame`). -/
theorem crcMatchCompletesTheFrame : Obligations.CrcMatchCompletesTheFrame := by
  intro s b slots hlen hcap hslots
  have hread : readSlots s.buf 0 s.nch.toNat = .ok slots :=
    hlen ▸ readSlots_of_halves (hlen ▸ hcap) hslots
  refine ⟨fun hf heq => ?_, _, completeFrame_eq_next.mpr ⟨slots, hread, rfl⟩, ?_, ?_, ?_⟩
  · exact selects_encode (i := .crcLowMatch b) rfl rfl ⟨hf, (crcEqual_iff_toNat _ _ _).mpr heq⟩
  · simp
  · simp [completionEvents]
  · rw [emitAll_frame]
    rfl

/-! ### The next-state table and the fold summary (R119, R120) -/

theorem byte_keeps_input {s t : State} {b : Byte} (h : exec (decode s.ctx b) s = .next t) :
    t.input = s.input := by
  obtain hout | ⟨-, -, slots, rfl⟩ := byte_sameOutside_or_completes h
  · exact hout.input.symm
  · simp

/-- Settles O39: the decoded row goes where R119's table says (`destination_decode`). -/
theorem nextStateTable : Obligations.NextStateTable := by
  intro s t b rest hin h
  rw [step_of_offer hin] at h
  exact ⟨(exec_fsm h).trans (destination_decode s.ctx b), byte_keeps_input (s := { s with input := rest }) h⟩

/-- `crc` after row `i`, from the accumulator `c`: `IDLE.SOF` starts it afresh, the rows that discard, reject
a length or take the CRC keep it, and every other row folds its byte. -/
def crcAfter (i : Instr) (c : Word16) : Word16 :=
  match i with
  | .idleSof b => crcUpdate crcReset b
  | .idleOther _ | .startV1LenBad _ | .startV3LenBad _ | .crcHigh _ | .crcLowMatch _ | .crcLowMismatch _ => c
  | i => crcUpdate c (encode i)

theorem exec_crc {i : Instr} {s t : State} (h : exec i s = .next t) : t.crc = crcAfter i s.crc := by
  cases i with
  | v1High | v3High =>
    obtain ⟨-, rfl⟩ := storeHigh_eq_next.mp h
    rfl
  | v1LowLoop | v1LowEnd | v3LowLoop | v3LowEnd =>
    obtain ⟨-, rfl⟩ := storeLow_eq_next.mp h
    rfl
  | crcLowMatch =>
    obtain ⟨slots, -, rfl⟩ := completeFrame_eq_next.mp h
    simp [crcAfter]
  | _ => cases h; rfl

/-- R120's summary is what the decoded row does to `crc`. -/
theorem crcAfter_decode (c : Ctx) (b : Byte) : crcAfter (decode c b) c.crc = nextCrc c b := by
  have hbyte := encode_decode c b
  cases hf : c.fsm <;> simp only [decode, nextCrc, hf] at hbyte ⊢
  case idle => split <;> rfl
  case startV1 => simp only [lenOkV1_iff]; split <;> rfl
  case startV3 => simp only [lenOkV3_iff]; split <;> rfl
  case gotStart => split_ifs at hbyte ⊢ <;> exact congrArg (crcUpdate c.crc) hbyte
  case v1Low | v3Low | v3FuncCode | crcLow => split <;> rfl
  all_goals rfl

/-- Settles O40: the decoded row leaves in `crc` what R120's summary says (`crcAfter_decode`). -/
theorem foldSummary : Obligations.FoldSummary := by
  intro s t b rest hin h
  rw [step_of_offer hin] at h
  exact (exec_crc h).trans (crcAfter_decode s.ctx b)

end Sys2Proof.DecoderFsm
end

section
/-!
Bounded liveness (R124): from every state of `BlockInv` the FSM is in `Idle` within 140 bytes.

`bytesLeft` is the most bytes a state can still take before `Idle`: the rest of the longest frame its
registers allow. Under R34 it is at most 140, a step has a next state, and every byte outside `Idle` lowers
it; so the run reaches `Idle` by induction on the bytes offered.
-/

namespace Sys2Proof.DecoderFsm

open Sys2Proof.Machine Sys2Proof.Safety Sys2Proof.StateRules Sys2Proof.Encoding

/-- An upper bound on the byte steps before `Idle` (R124): two for each pair still missing, 4 trailer bytes
in V3 and 2 CRC bytes; before the length byte, those of the longest frame of the format. -/
def bytesLeft (s : State) : Nat :=
  match s.fsm with
  | .idle => 0
  | .gotStart => 140
  | .startV1 => 67
  | .startV3 => 139
  | .v1High => 2 * (s.nch.toNat - s.idx.toNat) + 2
  | .v1Low => 2 * (s.nch.toNat - s.idx.toNat) + 1
  | .v3High => 2 * (max s.nch.toNat 1 - s.idx.toNat) + 6
  | .v3Low => 2 * (max s.nch.toNat 1 - s.idx.toNat) + 5
  | .v3FuncCode => 6
  | .v3LastValid => 5
  | .v3ModeCmd => 4
  | .v3SubCmd => 3
  | .crcHigh => 2
  | .crcLow => 1

theorem bytesLeft_eq_zero_iff (s : State) : bytesLeft s = 0 ↔ s.fsm = .idle := by
  cases hf : s.fsm <;> simp [bytesLeft, hf]

theorem bytesLeft_le_of_frameInv {s : State} (hinv : FrameInv s) : bytesLeft s ≤ 140 := by
  cases hf : s.fsm <;> simp only [FrameInv, hf] at hinv <;> simp only [bytesLeft, hf] <;> omega

/-- Every byte outside `Idle` brings the end of the frame nearer: an abort or a completion ends it, a
version or length byte chooses among frames that all fit, a low byte advances `idx`, and every other byte
moves to a state nearer the end. -/
theorem byte_lowers_bytesLeft {s t : State} {b : Byte} (hinv : FrameInv s) (hne : s.fsm ≠ .idle)
    (h : exec (decode s.ctx b) s = .next t) : bytesLeft t < bytesLeft s := by
  have habort (ht : t.fsm = .idle) : bytesLeft t < bytesLeft s := by
    rw [(bytesLeft_eq_zero_iff t).mpr ht]
    exact Nat.pos_of_ne_zero (mt (bytesLeft_eq_zero_iff s).mp hne)
  obtain
    -- Idle, GotStart
    ⟨hf, -⟩ | ⟨hf, -⟩ | ⟨hf, -, rfl⟩ | ⟨hf, -, rfl⟩ | ⟨-, -, -, rfl⟩ |
    -- StartV1, StartV3
    ⟨hf, -, hmax, rfl⟩ | ⟨-, -, rfl⟩ | ⟨hf, -, hmax, rfl⟩ | ⟨-, -, rfl⟩ |
    -- V1High, V3High, V1Low, V3Low
    ⟨hf, -, rfl⟩ | ⟨hf, -, rfl⟩ |
    ⟨hf, hcap, hmore, rfl⟩ | ⟨hf, hcap, hlast, rfl⟩ | ⟨hf, hcap, hmore, rfl⟩ | ⟨hf, hcap, hlast, rfl⟩ |
    -- the V3 trailer, CrcHigh, CrcLow
    ⟨hf, rfl⟩ | ⟨hf, rfl⟩ | ⟨hf, rfl⟩ | ⟨hf, rfl⟩ | ⟨hf, rfl⟩ |
    ⟨-, -, slots, -, rfl⟩ | ⟨-, -, rfl⟩ := byte_cases h
  · -- IDLE.SOF
    exact absurd hf hne
  · -- IDLE.OTHER
    exact absurd hf hne
  · -- GOTSTART.V1
    simp [bytesLeft, hf]
  · -- GOTSTART.V3
    simp [bytesLeft, hf]
  · -- GOTSTART.BAD
    exact habort rfl
  · -- STARTV1.LEN_OK
    have hnch := nchOfLenV1_toNat hmax
    simp only [bytesLeft, hf]
    omega
  · -- STARTV1.LEN_BAD
    exact habort rfl
  · -- STARTV3.LEN_OK
    have hnch := nchOfLenV3_toNat hmax
    simp only [bytesLeft, hf]
    omega
  · -- STARTV3.LEN_BAD
    exact habort rfl
  · -- V1HIGH
    simp [bytesLeft, hf]
  · -- V3HIGH
    simp [bytesLeft, hf]
  · -- V1LOW.LOOP
    have hidx := idx_succ_toNat hcap
    simp only [bytesLeft, hf]
    omega
  · -- V1LOW.END
    simp only [FrameInv, hf] at hinv
    simp only [bytesLeft, hf]
    omega
  · -- V3LOW.LOOP
    have hidx := idx_succ_toNat hcap
    simp only [bytesLeft, hf]
    omega
  · -- V3LOW.END
    simp only [FrameInv, hf] at hinv
    simp only [bytesLeft, hf]
    omega
  · -- V3FUNC
    simp [bytesLeft, hf]
  · -- V3LASTVALID
    simp [bytesLeft, hf]
  · -- V3MODECMD
    simp [bytesLeft, hf]
  · -- V3SUBCMD
    simp [bytesLeft, hf]
  · -- CRCHIGH
    simp [bytesLeft, hf]
  · -- CRCLOW.MATCH
    exact habort rfl
  · -- CRCLOW.MISMATCH
    exact habort rfl

/-- A byte offered outside `Idle` has a step, which keeps R34, leaves the later edges and lowers
`bytesLeft`. -/
theorem step_lowers_bytesLeft {s : State} {b : Byte} {todo : List Edge} (hinv : FrameInv s)
    (hne : s.fsm ≠ .idle) (hin : s.input = Edge.offer b :: todo) :
    ∃ t, step s = .next t ∧ FrameInv t ∧ t.input = todo ∧ bytesLeft t < bytesLeft s := by
  have hinv' : FrameInv { s with input := todo } := (Scope.frameInv_input todo).mpr hinv
  obtain ⟨t, ht⟩ := Scope.exec_decode_next_of_frameInv b hinv'
  exact ⟨t, (step_of_offer hin).trans ht, byte_keeps_frameInv hinv' ht, byte_keeps_input ht,
    byte_lowers_bytesLeft (s := { s with input := todo }) hinv' hne ht⟩

/-- As many bytes as `bytesLeft` bring the FSM to `Idle`. -/
theorem reaches_idle {bs : List Byte} {rest : List Edge} {s : State} (hinv : FrameInv s)
    (hin : s.input = offers bs ++ rest) (hlen : bytesLeft s ≤ bs.length) :
    ∃ k t, k ≤ bs.length ∧ runSteps k s = .next t ∧ t.fsm = .idle := by
  induction bs generalizing s with
  | nil => exact ⟨0, s, Nat.le_refl 0, rfl, (bytesLeft_eq_zero_iff s).mp (Nat.le_zero.mp hlen)⟩
  | cons b bs ih =>
    by_cases hidle : s.fsm = .idle
    · exact ⟨0, s, Nat.zero_le _, rfl, hidle⟩
    · obtain ⟨t, hstep, hinv', hin', hless⟩ := step_lowers_bytesLeft hinv hidle hin
      obtain ⟨k, u, hk, hrun, hu⟩ := ih hinv' hin' (Nat.le_of_lt_succ (Nat.lt_of_lt_of_le hless hlen))
      exact ⟨k + 1, u, Nat.succ_le_succ hk, (Frames.runSteps_succ k hstep).trans hrun, hu⟩

/-- Settles O48: under R34 at most 140 bytes are left (`bytesLeft_le_of_frameInv`), and 140 are offered. -/
theorem backInIdleWithin140Bytes : Obligations.BackInIdleWithin140Bytes := by
  rintro s bs rest ⟨-, -, -, hinv⟩ hin hlen
  rw [← hlen]
  exact reaches_idle hinv hin (hlen ▸ bytesLeft_le_of_frameInv hinv)

end Sys2Proof.DecoderFsm
end

section
/-!
The CRC (42_crc.md). A round is linear over XOR and loses no bit, for the bit shifted out stands in the low
bit of the result. So an update splits into the low byte of the accumulator, which 8 rounds only shift, and
the rounds of the high byte XORed with the input byte (`crcUpdate_eq_shiftLeft_xor`); the byte-parallel form,
the residue and the detection of a changed byte follow from this split.
-/

namespace Sys2Proof.Crc

open Sys2Proof.Machine

/-! ### One round (R141) -/

theorem crcRound_eq (c : Word16) : crcRound c = c <<< 1 ^^^ if c.msb then Config.crcPoly else 0#16 := by
  unfold crcRound
  split
  · rfl
  · exact BitVec.xor_zero.symm

theorem crcRound_of_msb_false {c : Word16} (h : c.msb = false) : crcRound c = c <<< 1 := by
  rw [crcRound_eq, h, if_neg Bool.false_ne_true, BitVec.xor_zero]

theorem ite_xor_eq_xor_ite (p q : Bool) (v : Word16) :
    (if p ^^ q then v else 0#16) = (if p then v else 0#16) ^^^ if q then v else 0#16 := by
  cases p <;> cases q <;> simp

theorem crcRound_xor (c d : Word16) : crcRound (c ^^^ d) = crcRound c ^^^ crcRound d := by
  simp only [crcRound_eq, BitVec.shiftLeft_xor_distrib, BitVec.msb_xor, ite_xor_eq_xor_ite]
  ac_rfl

/-- The low bit of a round is the bit it shifted out. -/
theorem crcRound_getLsbD_zero (c : Word16) : (crcRound c).getLsbD 0 = c.msb := by
  rw [crcRound_eq]
  cases c.msb <;> simp [Config.crcPoly]

theorem crcRound_eq_zero {c : Word16} (h : crcRound c = 0#16) : c = 0#16 := by
  have hmsb : c.msb = false := by rw [← crcRound_getLsbD_zero, h, BitVec.getLsbD_zero]
  have hlt : 2 * c.toNat < 2 ^ 16 := BitVec.msb_eq_false_iff_two_mul_lt.mp hmsb
  rw [crcRound_of_msb_false hmsb] at h
  bv_omega

theorem crcRound_injective : Function.Injective crcRound := fun c d h =>
  BitVec.xor_eq_zero_iff.mp <| crcRound_eq_zero <| by rw [crcRound_xor, h, BitVec.xor_self]

/-! ### Several rounds -/

theorem crcRounds_xor (n : Nat) (c d : Word16) : crcRounds n (c ^^^ d) = crcRounds n c ^^^ crcRounds n d := by
  induction n generalizing c d with
  | zero => rfl
  | succ n ih => simp only [crcRounds, crcRound_xor, ih]

theorem crcRounds_injective (n : Nat) : Function.Injective (crcRounds n) := by
  induction n with
  | zero => exact Function.injective_id
  | succ n ih => exact ih.comp crcRound_injective

/-- Rounds that shift out no set bit are a shift. -/
theorem crcRounds_eq_shiftLeft {n : Nat} {c : Word16} (h : c.toNat * 2 ^ n < 2 ^ 16) :
    crcRounds n c = c <<< n := by
  induction n generalizing c with
  | zero => exact (BitVec.shiftLeft_zero c).symm
  | succ n ih =>
    have hpos : 0 < 2 ^ n := Nat.two_pow_pos n
    have hdouble : 2 * c.toNat * 2 ^ n < 2 ^ 16 := by rwa [Nat.mul_comm 2, Nat.mul_assoc, ← Nat.pow_succ']
    have hlt : 2 * c.toNat < 2 ^ 16 := Nat.lt_of_le_of_lt (Nat.le_mul_of_pos_right _ hpos) hdouble
    have hshift : (c <<< 1).toNat = 2 * c.toNat := by
      rw [BitVec.toNat_shiftLeft, Nat.shiftLeft_eq, pow_one, Nat.mul_comm, Nat.mod_eq_of_lt hlt]
    rw [crcRounds, crcRound_of_msb_false (BitVec.msb_eq_false_iff_two_mul_lt.mpr hlt),
      ih (by rwa [hshift]), Nat.add_comm, BitVec.shiftLeft_add]

/-! ### One update (R141) -/

theorem word_eq_highByte_xor_lowByte (c : Word16) :
    c = (highByte c).setWidth 16 <<< 8 ^^^ (lowByte c).setWidth 16 := by
  ext i hi
  by_cases hlow : i < 8
  · simp [highByte, lowByte, hlow, hi]
  · have hbyte : i - 8 < 8 := by omega
    have hback : 8 + (i - 8) = i := by omega
    simp [highByte, lowByte, hlow, hi, hbyte, hback]

theorem shiftLeft_eight_eq_lowByte (c : Word16) : c <<< 8 = (lowByte c).setWidth 16 <<< 8 := by
  refine BitVec.eq_of_toNat_eq ?_
  simp only [lowByte, BitVec.toNat_shiftLeft, BitVec.toNat_setWidth, BitVec.extractLsb'_toNat,
    Nat.shiftLeft_eq, Nat.shiftRight_zero]
  omega

theorem crcUpdate_eq_shiftLeft_xor (c : Word16) (b : Byte) :
    crcUpdate c b = c <<< 8 ^^^ crcRounds 8 ((highByte c ^^^ b).setWidth 16 <<< 8) := by
  have hsplit : c ^^^ b.setWidth 16 <<< 8 =
      (lowByte c).setWidth 16 ^^^ (highByte c ^^^ b).setWidth 16 <<< 8 := by
    conv_lhs => rw [word_eq_highByte_xor_lowByte c]
    rw [BitVec.setWidth_xor, BitVec.shiftLeft_xor_distrib]
    ac_rfl
  have hlow : crcRounds 8 ((lowByte c).setWidth 16) = c <<< 8 := by
    rw [shiftLeft_eight_eq_lowByte]
    refine crcRounds_eq_shiftLeft ?_
    have := (lowByte c).isLt
    rw [BitVec.toNat_setWidth_of_le (by decide)]
    omega
  rw [crcUpdate, hsplit, crcRounds_xor, hlow]

/-! ### The byte-parallel form (R143) -/

/-- The 256 entries of the byte-parallel form: what 8 rounds make of a byte in the top 8 bits. -/
theorem crcRounds_eight_topByte (x : Byte) :
    crcRounds 8 (x.setWidth 16 <<< 8) =
      (x ^^^ x >>> 4).setWidth 16 <<< 12 ^^^ (x ^^^ x >>> 4).setWidth 16 <<< 5 ^^^
        (x ^^^ x >>> 4).setWidth 16 := by
  revert x
  decide

/-- Settles O36: `crcUpdateParallel` is the split of `crcUpdate` with its second part evaluated. -/
theorem byteParallelCrcAgrees : Obligations.ByteParallelCrcAgrees := by
  intro c b
  rw [crcUpdate_eq_shiftLeft_xor, crcRounds_eight_topByte]
  simp only [crcUpdateParallel, BitVec.xor_assoc]

/-! ### The residue (R145) -/

theorem crcUpdate_highByte (c : Word16) : crcUpdate c (highByte c) = c <<< 8 := by
  have hzero : crcRounds 8 ((0#8).setWidth 16 <<< 8) = 0#16 := rfl
  rw [crcUpdate_eq_shiftLeft_xor, BitVec.xor_self, hzero, BitVec.xor_zero]

theorem highByte_shiftLeft_eight (c : Word16) : highByte (c <<< 8) = lowByte c := by
  refine BitVec.eq_of_toNat_eq ?_
  simp only [highByte, lowByte, BitVec.toNat_shiftLeft, BitVec.extractLsb'_toNat, Nat.shiftLeft_eq,
    Nat.shiftRight_zero]
  omega

/-- Settles O37: each byte of the CRC, folded in, cancels the high byte, and the update only shifts. -/
theorem crcResidueIsZero : Obligations.CrcResidueIsZero := by
  intro s
  set c := crc16 s
  calc crc16 (s ++ [highByte c, lowByte c])
      = crcUpdate (crcUpdate c (highByte c)) (lowByte c) := List.foldl_append
    _ = crcUpdate (c <<< 8) (highByte (c <<< 8)) := by rw [crcUpdate_highByte, highByte_shiftLeft_eight]
    _ = c <<< 8 <<< 8 := crcUpdate_highByte _
    _ = 0x0000#16 := by rw [← BitVec.shiftLeft_add, BitVec.shiftLeft_eq_zero (by decide)]

/-! ### A changed byte (R140, R146) -/

theorem crcUpdate_left_injective (b : Byte) : Function.Injective (crcUpdate · b) := fun _ _ h =>
  (BitVec.xor_left_inj _).mp (crcRounds_injective 8 h)

theorem crcUpdate_right_injective (c : Word16) : Function.Injective (crcUpdate c) := by
  intro b b' h
  have htop : b.setWidth 16 <<< 8 = b'.setWidth 16 <<< 8 :=
    (BitVec.xor_right_inj c).mp (crcRounds_injective 8 h)
  bv_omega

theorem foldl_crcUpdate_injective (bs : List Byte) : Function.Injective fun c => bs.foldl crcUpdate c := by
  induction bs with
  | nil => exact Function.injective_id
  | cons b bs ih => exact ih.comp (crcUpdate_left_injective b)

/-- Settles O38: the changed byte changes the accumulator, and no later byte brings the two together. -/
theorem crcDetectsAChangedByte : Obligations.CrcDetectsAChangedByte := by
  intro before after b b' hne heq
  simp only [crc16, List.foldl_append, List.foldl_cons] at heq
  exact hne (crcUpdate_right_injective _ (foldl_crcUpdate_injective after heq))

end Sys2Proof.Crc
end

section
/-!
The family of 43_classifier.md: the classifier's map of the function-code byte. Codes 0 to 5 have a row each,
whose byte is that code; the defined codes are these six bytes (`functionDefined_iff_eq`), so the last row's
byte class is what the other six leave (R163). Every row is the shared step of the function-code byte.
-/

namespace Sys2Proof.Classifier

open Sys2Proof.Machine Sys2Proof.Encoding

/-! ### The decoded row (R160, R161, R163) -/

/-- The byte class of a defined function code, byte by byte. -/
theorem functionDefined_iff_eq (b : Byte) :
    functionDefined b = true ↔
      b = 0x00#8 ∨ b = 0x01#8 ∨ b = 0x02#8 ∨ b = 0x03#8 ∨ b = 0x04#8 ∨ b = 0x05#8 := by
  rw [functionDefined_iff]
  bv_omega

/-- R161: a code that is not defined falls through to the last row. -/
theorem decodeFunction_of_undefined {b : Byte} (h : ¬functionDefined b = true) :
    decodeFunction b = .funcUnrec b := by
  simp only [functionDefined_iff_eq, not_or] at h
  simp [decodeFunction, h]

theorem decodeFunction_classifierRow (b : Byte) : (decodeFunction b).classifierRow = true := by
  unfold decodeFunction
  split_ifs <;> rfl

theorem decodeFunction_wellFormed (b : Byte) : (decodeFunction b).wellFormed = true := by
  by_cases hdef : functionDefined b = true
  · obtain rfl | rfl | rfl | rfl | rfl | rfl := (functionDefined_iff_eq b).mp hdef <;> rfl
  · simp [decodeFunction_of_undefined hdef, Instr.wellFormed, hdef]

/-- A row of a defined code fixes the whole byte, and the last row keeps it (R86). -/
theorem encode_decodeFunction (b : Byte) : encode (decodeFunction b) = b := by
  by_cases hdef : functionDefined b = true
  · obtain rfl | rfl | rfl | rfl | rfl | rfl := (functionDefined_iff_eq b).mp hdef <;> rfl
  · rw [decodeFunction_of_undefined hdef, encode]

/-- A well-formed row of the classifier's map is read back from its byte: the byte of the last row is not
one of the six before it. -/
theorem decodeFunction_encode {i : Instr} (hrow : i.classifierRow = true) (hwf : i.wellFormed = true) :
    decodeFunction (encode i) = i := by
  cases i with
  | func00 | func01 | func02 | func03 | func04 | func05 => rfl
  | funcUnrec b =>
    have hundef : ¬functionDefined b = true := by simpa [Instr.wellFormed] using hwf
    exact decodeFunction_of_undefined hundef
  | _ => cases hrow

/-- Settles O2: the three facts about the decoded row, and `decodeFunction_encode` for the other direction. -/
theorem functionRowDecodeEncodeAgree : Obligations.FunctionRowDecodeEncodeAgree := by
  intro b i
  constructor
  · rintro ⟨hrow, hwf, rfl⟩
    exact decodeFunction_encode hrow hwf
  · rintro rfl
    exact ⟨decodeFunction_classifierRow b, decodeFunction_wellFormed b, encode_decodeFunction b⟩

/-! ### What a row writes (R112, R160, R161) -/

/-- The step of a function-code byte writes `crc`, `variant` and `state`, and nothing else. -/
theorem functionStep_eq (b : Byte) (v : Variant) (s : State) :
    functionStep b v s = .next { s with crc := crcUpdate s.crc b, variant := v, fsm := .v3LastValid } :=
  functionStep_eq_next.mpr rfl

/-- Settles O22: each row is `functionStep` of its own byte and variant, read as a whole step (log entry 9). -/
theorem classifierRowsSetTheVariant : Obligations.ClassifierRowsSetTheVariant := by
  intro s b
  refine ⟨?func00, ?func01, ?func02, ?func03, ?func04, ?func05, ?funcUnrec⟩
  all_goals exact functionStep_eq _ _ s

end Sys2Proof.Classifier
end

section
/-!
The family of 44_converter.md: the pulse of a raw value (R183), and what a conversion emits and writes
(R184 to R198).

Every variant's conversion is a list of copies, a switch unpack and a `Valid`, the latter two possibly absent
(`convert_eq`). The copies are plain data, pairs of an output and the slot it takes (`copies`), so the tables
of R80 and R198 are compared with that data once, and the statements follow from what a list of copies does.
-/

namespace Sys2Proof.Converter

open Sys2Proof.Machine Sys2Proof.Safety

/-! ### The pulse of a raw value (R182, R183) -/

/-- A clamp answers one of its bounds or its argument, and the argument only from between them: so between
16-bit bounds it fits in 16 signed bits. -/
theorem clamp_toInt_fits (x : Int) (lo hi : Word16) :
    -2 ^ 15 ≤ clamp x lo.toInt hi.toInt ∧ clamp x lo.toInt hi.toInt < 2 ^ 15 := by
  have hlo : -2 ^ 15 ≤ lo.toInt ∧ lo.toInt < 2 ^ 15 := ⟨lo.le_toInt, lo.toInt_lt⟩
  have hhi : -2 ^ 15 ≤ hi.toInt ∧ hi.toInt < 2 ^ 15 := ⟨hi.le_toInt, hi.toInt_lt⟩
  unfold clamp
  split_ifs <;> omega

/-- Settles O31: the clamped difference fits in 16 signed bits, so the narrowing keeps its value. -/
theorem pulseIsTheClampedDifference : Obligations.PulseIsTheClampedDifference := by
  intro p r
  obtain ⟨hge, hlt⟩ := clamp_toInt_fits ((r.toNat : Int) - p.center.toNat) p.pulseMin p.pulseMax
  exact BitVec.toInt_ofInt_eq_self (by decide) hge hlt

/-! ### One copy (R183) -/

/-- R181, R192: a copy emits its one write if the frame carries the slot and the output exists. -/
theorem mem_put {p : Params} {slots : List Word16} {j k : Nat} {e : Event} :
    e ∈ put p slots j k ↔
      ∃ h : k < slots.length, j < p.nOut ∧ e = .pulseWrite j (toPulse p slots[k]) := by
  rw [put_eq]
  split_ifs <;> simp_all

theorem put_length (p : Params) (slots : List Word16) (j k : Nat) :
    (put p slots j k).length = if k < slots.length ∧ j < p.nOut then 1 else 0 := by
  rw [put_eq]
  split_ifs <;> simp_all

/-- A copy gives its own output the pulse of its slot, if the frame carries that slot, and leaves the other
outputs alone (R193). -/
theorem emitAll_put_pulses (s : State) (p : Params) (slots : List Word16) (j k : Nat) {i : Nat}
    (hi : i < p.nOut) (hlen : i < s.pulses.length) :
    (s.emitAll (put p slots j k)).pulses[i]? =
      if j = i then (slots[k]?.map (toPulse p)).or s.pulses[i]? else s.pulses[i]? := by
  by_cases hk : k < slots.length
  · by_cases hj : j < p.nOut
    · by_cases hji : j = i
      · simp [put_eq, hk, hi, hji, hlen]
      · simp [put_eq, hk, hj, hji]
    · have hne : j ≠ i := by omega
      simp [put_eq, hj, hne]
  · simp [put_eq, hk]

/-! ### A list of copies -/

/-- `for k in lo..lo+n-1: put(k + off, k)` as data: each output with the slot it takes. -/
def copyRange (lo n off : Nat) : List (Nat × Nat) := (List.range' lo n).map fun k => (k + off, k)

/-- The events of a list of copies, in order. -/
def copyEvents (p : Params) (slots : List Word16) (cs : List (Nat × Nat)) : List Event :=
  cs.flatMap fun c => put p slots c.1 c.2

/-- The copy is made: its slot is among the `nch` of the frame (R181) and its output exists (R192). -/
def made (nch nOut : Nat) (c : Nat × Nat) : Bool := decide (c.2 < nch ∧ c.1 < nOut)

theorem putRange_eq_copyEvents (p : Params) (slots : List Word16) (lo n off : Nat) :
    putRange p slots lo n off = copyEvents p slots (copyRange lo n off) := by
  rw [copyEvents, copyRange, List.flatMap_map, putRange]

theorem copyEvents_append (p : Params) (slots : List Word16) (cs ds : List (Nat × Nat)) :
    copyEvents p slots (cs ++ ds) = copyEvents p slots cs ++ copyEvents p slots ds :=
  List.flatMap_append

theorem mem_copyRange {lo n off j k : Nat} :
    (j, k) ∈ copyRange lo n off ↔ (lo ≤ k ∧ k < lo + n) ∧ j = k + off := by
  simp [copyRange, List.mem_range'_1]
  omega

theorem mem_copyEvents {p : Params} {slots : List Word16} {cs : List (Nat × Nat)} {e : Event}
    (h : e ∈ copyEvents p slots cs) : ∃ j w, e = .pulseWrite j w := by
  obtain ⟨c, -, he⟩ := List.mem_flatMap.mp h
  obtain ⟨-, -, rfl⟩ := mem_put.mp he
  exact ⟨_, _, rfl⟩

theorem copyEvents_length (p : Params) (slots : List Word16) (cs : List (Nat × Nat)) :
    (copyEvents p slots cs).length = cs.countP (made slots.length p.nOut) := by
  induction cs with
  | nil => rfl
  | cons c cs ih =>
    have hc : copyEvents p slots (c :: cs) = put p slots c.1 c.2 ++ copyEvents p slots cs := rfl
    simp [hc, ih, put_length, List.countP_cons, made, Nat.add_comm]

/-- Copies to ascending outputs emit their writes in that order. -/
theorem copyEvents_pairwise_before (p : Params) (slots : List Word16) {cs : List (Nat × Nat)}
    (h : cs.Pairwise fun c d => c.1 < d.1) : (copyEvents p slots cs).Pairwise Before := by
  refine List.pairwise_flatMap.mpr ⟨fun c _ => ?_, h.imp fun hlt e he e' he' => ?_⟩
  · rw [put_eq]
    split_ifs <;> simp
  · obtain ⟨-, -, rfl⟩ := mem_put.mp he
    obtain ⟨-, -, rfl⟩ := mem_put.mp he'
    exact .inr ⟨rfl, hlt⟩

/-- Copies that all give output `i` the slot `k` leave there that slot's pulse, if there is such a copy and
the frame carries the slot, and the old value otherwise. -/
theorem emitAll_copyEvents_pulses (s : State) (p : Params) (slots : List Word16) {cs : List (Nat × Nat)}
    {i k : Nat} (hi : i < p.nOut) (hlen : i < s.pulses.length) (hslot : ∀ c ∈ cs, c.1 = i → c.2 = k) :
    (s.emitAll (copyEvents p slots cs)).pulses[i]? =
      if ∃ c ∈ cs, c.1 = i then (slots[k]?.map (toPulse p)).or s.pulses[i]? else s.pulses[i]? := by
  induction cs generalizing s with
  | nil => simp [copyEvents]
  | cons c cs ih =>
    obtain ⟨hc, hcs⟩ := List.forall_mem_cons.mp hslot
    have hsplit : copyEvents p slots (c :: cs) = put p slots c.1 c.2 ++ copyEvents p slots cs := rfl
    rw [hsplit, State.emitAll_append, ih _ (by simpa using hlen) hcs, emitAll_put_pulses s p slots _ _ hi hlen]
    by_cases hci : c.1 = i
    · simp [hci, hc hci, ← Option.or_assoc]
    · simp only [List.exists_mem_cons_iff, hci, if_false, false_or]

/-! ### The copies of a variant (R80, R184 to R189) -/

/-- The copies of a variant, in the order of R195. -/
def copies : Variant → List (Nat × Nat)
  | .ch1to12 | .ch1to12sw64 => copyRange 0 12 0
  | .ch1to8and13to16 => copyRange 0 8 0 ++ copyRange 8 4 4
  | .ch1to16 => copyRange 0 16 0
  | .ch1to8and17to24 => copyRange 0 8 0 ++ copyRange 8 8 8
  | .ch1to8and25to32 => copyRange 0 8 0 ++ copyRange 8 8 16
  | .unrec => []

/-- The switch writes of a variant (R189, R194). -/
def switchEvents (slots : List Word16) (v : Variant) : List Event :=
  if v = .ch1to12sw64 then unpackSwitches slots else []

/-- The `Valid` of a named variant (R196). -/
def validEvents (v : Variant) : List Event := if v = .unrec then [] else [.valid]

/-- R195: a conversion is the variant's copies, then its switch writes, then its `Valid`. -/
theorem convert_eq (p : Params) (slots : List Word16) (v : Variant) :
    convert p slots v = copyEvents p slots (copies v) ++ switchEvents slots v ++ validEvents v := by
  cases v with
  | ch1to12 | ch1to16 =>
    simp [convert, convertCh1to12, convertCh1to16, copies, switchEvents, validEvents, putRange_eq_copyEvents]
  | ch1to8and13to16 | ch1to8and17to24 | ch1to8and25to32 =>
    simp [convert, convertCh1to8and13to16, convertCh1to8and17to24, convertCh1to8and25to32, copies,
      switchEvents, validEvents, putRange_eq_copyEvents, copyEvents_append]
  | ch1to12sw64 =>
    simp [convert, convertCh1to12sw64, copies, switchEvents, validEvents, putRange_eq_copyEvents]
  | unrec => rfl

/-- R197: the loops of every variant ascend in the output. -/
theorem copies_ascending (v : Variant) : (copies v).Pairwise fun c d => c.1 < d.1 := by
  cases v <;> decide

/-- R80: a variant's copies are its column of the output table. -/
theorem mem_copies_iff {v : Variant} {j k : Nat} : (j, k) ∈ copies v ↔ sourceSlot v j = some k := by
  cases v with
  | ch1to12 | ch1to16 | ch1to12sw64 =>
    simp only [copies, sourceSlot, mem_copyRange, Option.ite_none_right_eq_some, Option.some.injEq]
    omega
  | ch1to8and13to16 | ch1to8and17to24 | ch1to8and25to32 =>
    simp only [copies, sourceSlot, List.mem_append, mem_copyRange]
    split_ifs <;> simp only [Option.some.injEq, iff_false] <;> omega
  | unrec => simp [copies, sourceSlot]

/-! ### The events of a conversion (R194 to R197) -/

theorem mem_switchEvents {slots : List Word16} {v : Variant} {e : Event} (h : e ∈ switchEvents slots v) :
    ∃ i on, e = .switchWrite i on := by
  unfold switchEvents at h
  split at h
  · exact mem_unpackSwitches h
  · cases h

theorem mem_validEvents {v : Variant} {e : Event} (h : e ∈ validEvents v) : e = .valid := by
  unfold validEvents at h
  split at h
  · cases h
  · exact List.mem_singleton.mp h

/-- R194: the switches are written in ascending order. -/
theorem unpackSwitches_pairwise_before (slots : List Word16) : (unpackSwitches slots).Pairwise Before := by
  unfold unpackSwitches
  split
  · exact List.pairwise_map.mpr ((List.pairwise_lt_finRange 64).imp fun hlt => .inr ⟨rfl, hlt⟩)
  · exact .nil

/-! The three parts of a conversion are the ranks 1, 2 and 3 of R197's order. -/

theorem rank_of_mem_copyEvents {p : Params} {slots : List Word16} {cs : List (Nat × Nat)} {e : Event}
    (h : e ∈ copyEvents p slots cs) : (orderKey e).1 = 1 := by
  obtain ⟨j, w, rfl⟩ := mem_copyEvents h
  rfl

theorem rank_of_mem_switchEvents {slots : List Word16} {v : Variant} {e : Event}
    (h : e ∈ switchEvents slots v) : (orderKey e).1 = 2 := by
  obtain ⟨i, on, rfl⟩ := mem_switchEvents h
  rfl

theorem rank_of_mem_validEvents {v : Variant} {e : Event} (h : e ∈ validEvents v) : (orderKey e).1 = 3 := by
  obtain rfl := mem_validEvents h
  rfl

theorem switchEvents_pairwise_before (slots : List Word16) (v : Variant) :
    (switchEvents slots v).Pairwise Before := by
  unfold switchEvents
  split
  · exact unpackSwitches_pairwise_before slots
  · exact .nil

theorem validEvents_pairwise_before (v : Variant) : (validEvents v).Pairwise Before := by
  unfold validEvents
  split
  · exact .nil
  · exact List.pairwise_singleton _ _

/-- Settles O32: each part is in order in itself, and the parts rise in rank. -/
theorem completionEventsInOrder : Obligations.CompletionEventsInOrder := by
  intro p slots v n
  rw [convert_eq, List.pairwise_cons, List.pairwise_append, List.pairwise_append]
  refine ⟨fun e he => .inl ?_, ⟨copyEvents_pairwise_before p slots (copies_ascending v),
    switchEvents_pairwise_before slots v, fun e he e' he' => .inl ?_⟩, validEvents_pairwise_before v,
    fun e he e' he' => .inl ?_⟩
  · have hready : (orderKey (.frameReady v n slots)).1 = 0 := rfl
    rcases List.mem_append.mp he with he | he
    · rcases List.mem_append.mp he with he | he
      · have := rank_of_mem_copyEvents he
        omega
      · have := rank_of_mem_switchEvents he
        omega
    · have := rank_of_mem_validEvents he
      omega
  · have hcopy := rank_of_mem_copyEvents he
    have hswitch := rank_of_mem_switchEvents he'
    omega
  · have hvalid := rank_of_mem_validEvents he'
    rcases List.mem_append.mp he with he | he
    · have := rank_of_mem_copyEvents he
      omega
    · have := rank_of_mem_switchEvents he
      omega

/-- Nothing before the `Valid` of a conversion is one. -/
theorem valid_not_mem_writes (p : Params) (slots : List Word16) (v : Variant) :
    .valid ∉ copyEvents p slots (copies v) ++ switchEvents slots v := by
  intro h
  rcases List.mem_append.mp h with h | h
  · obtain ⟨j, w, heq⟩ := mem_copyEvents h
    cases heq
  · obtain ⟨i, on, heq⟩ := mem_switchEvents h
    cases heq

/-- Settles O34: what stands before `validEvents` in `convert_eq` holds no `Valid`, and for a named variant
`validEvents` is the one event. -/
theorem validEndsEveryNamedConversion : Obligations.ValidEndsEveryNamedConversion := by
  refine fun p slots v => ⟨fun hv => ⟨_, ?_, valid_not_mem_writes p slots v⟩, ?_⟩
  · rw [convert_eq, validEvents, if_neg hv]
  · rintro rfl
    rfl

/-! ### How many events a conversion emits (R198) -/

/-- The copies made of a first block, which does not shift: `nch ⊓ n ⊓ N_OUT` (R198). -/
theorem countP_copyRange_zero (n nch nOut : Nat) :
    (copyRange 0 n 0).countP (made nch nOut) = min nch (min n nOut) := by
  induction n with
  | zero => simp [copyRange]
  | succ n ih =>
    have hlast : copyRange 0 (n + 1) 0 = copyRange 0 n 0 ++ [(n, n)] := by
      simp [copyRange, List.range'_concat]
    rw [hlast, List.countP_append, ih, List.countP_singleton]
    simp only [made, decide_eq_true_eq]
    split_ifs <;> omega

/-- The copies made of a second block, counted over all slots up to its last one (R198). -/
theorem countP_copyRange (lo n off nch nOut : Nat) :
    (copyRange lo n off).countP (made nch nOut) =
      ((List.range (lo + n)).filter fun k => decide (lo ≤ k ∧ k < nch ∧ k + off < nOut)).length := by
  have hbelow : (List.range' 0 lo).countP (fun k => decide (lo ≤ k ∧ k < nch ∧ k + off < nOut)) = 0 := by
    simp only [List.countP_eq_zero, List.mem_range'_1, decide_eq_true_eq]
    omega
  rw [← List.countP_eq_length_filter, List.range_eq_range', ← List.range'_append_1, List.countP_append, hbelow,
    Nat.zero_add, Nat.zero_add, copyRange, List.countP_map]
  refine List.countP_congr fun k hk => ?_
  obtain ⟨hlo, -⟩ := List.mem_range'_1.mp hk
  simp [made, hlo]

/-- The copies made of a variant are R198's column `W`. -/
theorem countP_copies (v : Variant) (nch nOut : Nat) :
    (copies v).countP (made nch nOut) = pulseCount v nch nOut := by
  cases v with
  | ch1to12 | ch1to16 | ch1to12sw64 => exact countP_copyRange_zero _ nch nOut
  | ch1to8and13to16 | ch1to8and17to24 | ch1to8and25to32 =>
    rw [copies, List.countP_append, countP_copyRange_zero, countP_copyRange]
    rfl
  | unrec => rfl

theorem switchEvents_length (slots : List Word16) (v : Variant) :
    (switchEvents slots v).length = switchCount v slots.length := by
  cases v with
  | ch1to12sw64 =>
    by_cases h : 16 ≤ slots.length
    · simp [switchEvents, switchCount, unpackSwitches, bitmap_of_ge h, h]
    · simp [switchEvents, switchCount, FrameBuffer.unpackSwitches_of_lt (Nat.lt_of_not_le h), h]
  | _ => rfl

theorem copyEvents_filter (p : Params) (slots : List Word16) (cs : List (Nat × Nat)) :
    (copyEvents p slots cs).filter isPulseWrite = copyEvents p slots cs ∧
      (copyEvents p slots cs).filter isSwitchWrite = [] := by
  rw [List.filter_eq_self, List.filter_eq_nil_iff, ← forall₂_and]
  intro e he
  obtain ⟨j, w, rfl⟩ := mem_copyEvents he
  exact ⟨rfl, Bool.false_ne_true⟩

theorem switchEvents_filter (slots : List Word16) (v : Variant) :
    (switchEvents slots v).filter isPulseWrite = [] ∧
      (switchEvents slots v).filter isSwitchWrite = switchEvents slots v := by
  rw [List.filter_eq_nil_iff, List.filter_eq_self, ← forall₂_and]
  intro e he
  obtain ⟨i, on, rfl⟩ := mem_switchEvents he
  exact ⟨Bool.false_ne_true, rfl⟩

theorem validEvents_filter (v : Variant) :
    (validEvents v).filter isPulseWrite = [] ∧ (validEvents v).filter isSwitchWrite = [] := by
  rw [List.filter_eq_nil_iff, List.filter_eq_nil_iff, ← forall₂_and]
  intro e he
  obtain rfl := mem_validEvents he
  exact ⟨Bool.false_ne_true, Bool.false_ne_true⟩

/-- R196: a named variant's conversion has one `Valid`, `VAR_UNREC`'s none. -/
theorem convert_count_valid (p : Params) (slots : List Word16) (v : Variant) :
    (convert p slots v).count .valid = if v = .unrec then 0 else 1 := by
  rw [convert_eq, List.count_append, List.count_eq_zero.mpr (valid_not_mem_writes p slots v), validEvents]
  split <;> rfl

/-- Settles O33: the pulse writes of a conversion are the events of its copies, its switch writes those of its
unpack. -/
theorem conversionWriteCounts : Obligations.ConversionWriteCounts := by
  intro p slots v
  obtain ⟨hcopyPulse, hcopySwitch⟩ := copyEvents_filter p slots (copies v)
  obtain ⟨hswitchPulse, hswitchSwitch⟩ := switchEvents_filter slots v
  obtain ⟨hvalidPulse, hvalidSwitch⟩ := validEvents_filter v
  have hpulses : (convert p slots v).filter isPulseWrite = copyEvents p slots (copies v) := by
    simp [convert_eq, hcopyPulse, hswitchPulse, hvalidPulse]
  have hswitches : (convert p slots v).filter isSwitchWrite = switchEvents slots v := by
    simp [convert_eq, hcopySwitch, hswitchSwitch, hvalidSwitch]
  refine ⟨?_, ?_, convert_count_valid p slots v⟩
  · rw [hpulses, copyEvents_length, countP_copies]
  · rw [hswitches, switchEvents_length]

/-! ### The outputs after a completion (R42, R117, R193) -/

theorem emitAll_pulses_of_no_pulseWrite {es : List Event} (s : State)
    (h : ∀ e ∈ es, isPulseWrite e = false) : (s.emitAll es).pulses = s.pulses := by
  induction es generalizing s with
  | nil => rfl
  | cons e es ih =>
    obtain ⟨he, hes⟩ := List.forall_mem_cons.mp h
    rw [State.emitAll_cons, ih _ hes]
    cases e with
    | pulseWrite j w => exact absurd he Bool.true_eq_false.mp
    | _ => rfl

/-- Of a conversion's events only the copies write outputs. -/
theorem emitAll_convert_pulses (s : State) (p : Params) (slots : List Word16) (v : Variant) :
    (s.emitAll (convert p slots v)).pulses = (s.emitAll (copyEvents p slots (copies v))).pulses := by
  rw [convert_eq, List.append_assoc, State.emitAll_append]
  refine emitAll_pulses_of_no_pulseWrite _ fun e he => ?_
  rcases List.mem_append.mp he with he | he
  · obtain ⟨i, on, rfl⟩ := mem_switchEvents he
    rfl
  · obtain rfl := mem_validEvents he
    rfl

/-- R80, R193: a conversion gives output `i` the pulse of its slot in the output table, if the frame carries
that slot. -/
theorem emitAll_convert_pulses_getElem? (s : State) (p : Params) (slots : List Word16) (v : Variant) {i : Nat}
    (hi : i < p.nOut) (hlen : i < s.pulses.length) :
    (s.emitAll (convert p slots v)).pulses[i]? =
      (((sourceSlot v i).bind fun k => slots[k]?).map (toPulse p)).or s.pulses[i]? := by
  rw [emitAll_convert_pulses]
  cases hsource : sourceSlot v i with
  | none =>
    have hnone : ¬∃ c ∈ copies v, c.1 = i := by
      rintro ⟨⟨j, k⟩, hmem, rfl⟩
      cases hsource.symm.trans (mem_copies_iff.mp hmem)
    rw [emitAll_copyEvents_pulses (k := 0) s p slots hi hlen fun c hc hci => absurd ⟨c, hc, hci⟩ hnone,
      if_neg hnone]
    rfl
  | some k =>
    have hslot : ∀ c ∈ copies v, c.1 = i → c.2 = k := by
      rintro ⟨j, k'⟩ hmem rfl
      exact Option.some.inj ((mem_copies_iff.mp hmem).symm.trans hsource)
    rw [emitAll_copyEvents_pulses s p slots hi hlen hslot,
      if_pos ⟨(i, k), mem_copies_iff.mpr hsource, rfl⟩]
    rfl

/-- Settles O28: the completion's slots are the ones read, and of its events only the conversion's copies
write outputs. -/
theorem completionWritesTheMappedOutputs : Obligations.CompletionWritesTheMappedOutputs := by
  intro s t b slots hslots hlen hexec
  obtain ⟨slots', hslots', rfl⟩ := completeFrame_eq_next.mp hexec
  obtain rfl := Except.ok.inj (hslots.symm.trans hslots')
  refine ⟨by simpa using hlen, fun j hj => ?_⟩
  rw [completionEvents, State.emitAll_cons, State.goto_pulses,
    emitAll_convert_pulses_getElem? _ _ _ _ hj (by simpa [hlen] using hj)]
  cases (sourceSlot s.variant j).bind fun k => slots[k]? <;> rfl

end Sys2Proof.Converter
end

section
/-!
The family of 70_reset_and_hazards.md: the reset step and power-on (R250, R251), and how many events a step
emits (R263).

The events of a step are at most those of one completion: a `FrameReady`, one write for each of the variant's
copies, its switch writes and a `Valid`.
-/

namespace Sys2Proof.ResetAndHazards

open Sys2Proof.Machine Sys2Proof.Safety Sys2Proof.Converter

/-! ### Reset and power-on (R35, R42, R250, R251) -/

/-- R226, R250: `rst` wins over the byte offered with it. -/
theorem step_of_reset {s : State} {valid : Bool} {b : Byte} {rest : List Edge}
    (hin : s.input = ⟨true, valid, b⟩ :: rest) : step s = .next ({ s with input := rest } : State).resetStep :=
  step_of_cons hin

theorem readByte_of_resetStep (s : State) (a : Nat) : s.resetStep.buf.readByte a = none := rfl

/-- Settles O6: the fields of `resetStep`, one by one. -/
theorem resetStepEffect : Obligations.ResetStepEffect := fun _ _ _ _ hin =>
  ⟨_, step_of_reset hin, State.resetStep_fsm _, State.resetStep_pkt _, readByte_of_resetStep _,
    State.resetStep_out _, State.resetStep_pulses _, State.resetStep_switches _, State.resetStep_params _,
    State.resetStep_input _⟩

/-- R42: output `j` of `SINK_PULSE0` is its initial value by index. -/
theorem sinkPulse0_getElem? {j : Nat} (hj : j < Config.params.nOut) :
    Config.sinkPulse0[j]? = some (Config.sinkPulse j) := by
  rw [Config.sinkPulse0, List.getElem?_map, List.getElem?_range hj, Option.map_some]

/-- Settles O7: the fields of `State.reset`, its outputs by index. -/
theorem powerOnState : Obligations.PowerOnState :=
  ⟨rfl, rfl, fun _ => rfl, fun _ hj => sinkPulse0_getElem? hj, rfl, rfl⟩

/-- A reset step writes every register, so it leaves the power-on state wherever the fields it does not write
hold their power-on contents. -/
theorem resetStep_eq_reset {s : State} (hparams : s.params = Config.params)
    (hpulses : s.pulses = Config.sinkPulse0) (hswitches : s.switches = Config.sinkSw0) (hin : s.input = [])
    (hout : s.out = []) : s.resetStep = State.reset := by
  rw [State.resetStep, hparams, hpulses, hswitches, hin, hout]
  rfl

/-- Settles O8: the one edge is taken, and the rest is `resetStep_eq_reset`. -/
theorem resetStepLeavesPowerOnState : Obligations.ResetStepLeavesPowerOnState := by
  intro s valid b hparams hpulses hswitches hout hin
  rw [step_of_reset hin, resetStep_eq_reset (s := { s with input := [] }) hparams hpulses hswitches rfl hout]

/-- Settles O54: power-on is in `Idle`, where R34 asks only that no byte is consumed. -/
theorem noFrameAtReset : Obligations.NoFrameAtReset :=
  ⟨fun hne => absurd rfl hne, rfl⟩

/-! ### The events of one step (R198, R263) -/

/-- The copies and switch writes of a variant: at most 16 copies without the unpack, 12 copies and 64 switches
with it. -/
theorem copies_length_add_switchCount_le (v : Variant) (nch : Nat) :
    (copies v).length + switchCount v nch ≤ 76 := by
  cases v with
  | ch1to12sw64 =>
    have hcopies : (copies .ch1to12sw64).length = 12 := rfl
    have hswitches : switchCount .ch1to12sw64 nch ≤ 64 := by
      simp only [switchCount]
      split <;> decide
    omega
  | _ => simp [copies, copyRange, switchCount]

theorem validEvents_length_le (v : Variant) : (validEvents v).length ≤ 1 := by
  unfold validEvents
  split <;> decide

/-- R198: a conversion emits at most 77 events, since a copy makes at most one write. -/
theorem convert_length_le (p : Params) (slots : List Word16) (v : Variant) : (convert p slots v).length ≤ 77 := by
  have hwrites : (copyEvents p slots (copies v)).length ≤ (copies v).length :=
    (copyEvents_length p slots (copies v)).trans_le List.countP_le_length
  have hcounts := copies_length_add_switchCount_le v slots.length
  have hvalid := validEvents_length_le v
  rw [convert_eq, List.length_append, List.length_append, switchEvents_length]
  omega

theorem completionEvents_length_le (s : State) (slots : List Word16) : (completionEvents s slots).length ≤ 78 :=
  Nat.succ_le_succ (convert_length_le s.params slots s.variant)

/-- Settles O35: only a completion emits anything, and it emits at most 78 events. -/
theorem atMost78EventsPerStep : Obligations.AtMost78EventsPerStep := by
  intro s t h
  obtain ⟨-, rfl⟩ | ⟨e, rest, -, ⟨-, rfl⟩ | ⟨-, -, rfl⟩ | ⟨-, -, hexec⟩⟩ := step_eq_next h
  · exact Nat.le_add_right _ _
  · exact Nat.le_add_right _ _
  · exact Nat.le_add_right _ _
  · obtain ⟨-, -, -, -, -, hout⟩ | ⟨-, -, slots, rfl⟩ :=
      StateRules.byte_sameOutside_or_completes (s := { s with input := rest }) hexec
    · exact hout ▸ Nat.le_add_right _ _
    · simpa using completionEvents_length_le { s with input := rest } slots

end Sys2Proof.ResetAndHazards
end
